-- ==== Sys2Proof/Word.lean ====
section
/-! DEFINITION. The byte, and the small value types requests, responses and encodings share. -/

namespace Sys2Proof

/-- A byte: 8 bits, bit 7 the most significant (spec 00 R8). -/
abbrev Byte := BitVec 8

/-- The type tag of a burst (spec 00 R9, 30 R81). -/
inductive Tag
  | command
  | data
deriving DecidableEq, Repr, Inhabited

/-- The operations of the host (spec 10 R20 latch `op`, 30 R89). -/
inductive Op
  | getaddr
  | frameC
  | frameD
  | seek
  | init
  | clear
  | write
deriving DecidableEq, Repr, Inhabited

/-- The outcome of one Transport attempt (spec 40 R108). -/
inductive Attempt
  | ack
  | nak
deriving DecidableEq, Repr, Inhabited

/-- The response codes of spec 60 R230, in the order of their numbers. `busNak` is never returned (R231). -/
inductive Code
  | ok
  | busNak
  | bufferTooLarge
  | addressOutOfRange
  | transportTimeout
  | illegalRequest
deriving DecidableEq, Repr, Inhabited

/-- The `info` half of a response (spec 60 R230, column info). -/
inductive Info
  | none
  | device (addr : BitVec 7)
  | count (n : Nat)
  | address (page column : Nat)
  | selector (sel : BitVec 4)
deriving DecidableEq, Repr, Inhabited

/-- The response register `rsp` (spec 10 R33). -/
structure Response where
  code : Code
  info : Info
deriving DecidableEq, Repr, Inhabited

end Sys2Proof
end

