-- ==== Sys2Proof/Config.lean ====
section
/-! DEFINITION. What one instance fixes at construction (spec 10 R21 to R27), and the free values. -/

namespace Sys2Proof

/-- The continuation policies (spec 10 R23; the name `noContinue` is spec 90 C1's). -/
inductive Policy
  | noContinue
  | lastTerminates
deriving DecidableEq, Repr, Inhabited

/-- The construction arguments of an instance. The default of a field is the one spec 10 R38 gives where no argument is given;
the fields without a default must be given. -/
structure Config where
  /-- The address-select strap SA0 (R21). -/
  sa0 : BitVec 1
  /-- SEG_COUNT, the number of columns (R22). -/
  segCount : Nat
  /-- PAGE_COUNT, the number of pages (R22). -/
  pageCount : Nat
  /-- MAX_BURST, in payload bytes (R24). -/
  maxBurst : Nat
  /-- POLICY (R23). -/
  policy : Policy := .lastTerminates
  /-- RETRY_LIMIT, attempts per write; `none` is infinity (R25). -/
  retryLimit : Option Nat := none
  /-- STRICT (R26). -/
  strict : Bool := false
  /-- INIT_COMPINS (spec 42 R142, general knowledge G1; log 10). -/
  initComPins : Byte := 0x32#8
  /-- INIT_CLOCK (spec 42 R142, general knowledge G1; log 10). -/
  initClock : Byte := 0x80#8
  /-- INIT_CHARGEPUMP (spec 42 R142, general knowledge G1; log 10). -/
  initChargePump : Byte := 0x14#8
deriving DecidableEq, Repr

/-- DEVADDR = 0x3C OR SA0, 7 bits (spec 10 R21, 30 R84). -/
def Config.devAddr (c : Config) : BitVec 7 := 0x3C#7 ||| c.sa0.setWidth 7

/-- BYTES_PER_PAGE = SEG_COUNT (spec 10 R22). -/
def Config.bytesPerPage (c : Config) : Nat := c.segCount

/-- BUF_SIZE = PAGE_COUNT * SEG_COUNT (spec 10 R22). -/
def Config.bufSize (c : Config) : Nat := c.pageCount * c.segCount

/-- The legal construction arguments (spec 10 R22, R25). -/
def Config.wf (c : Config) : Bool :=
  decide (1 ≤ c.pageCount) && decide (c.pageCount ≤ 8) && decide (1 ≤ c.segCount) && decide (c.segCount ≤ 256) &&
    decide (c.retryLimit ≠ some 0)

/-- The reference configuration (spec 10 R22, 95 Conventions): SA0 = 0, 8 pages of 128 columns, MAX_BURST 128. DESIGN CHOICE
(log 4): the instance the model's reset constructs; every claim ranges over all configurations. -/
def Config.reference : Config :=
  { sa0 := 0#1, segCount := 128, pageCount := 8, maxBurst := 128 }

/-- Free value: bits the spec leaves at any value (spec 93 U3, U16; spec 20 R59, R60). `freeBits w d j` is value `j`, of width
`w`, of draw `d` (log 3, log 8). Nothing in Lean can evaluate it. -/
opaque Config.freeBits (w : Nat) : Nat → Nat → BitVec w

/-- Free value: the outcome of an attempt the environment has not decided yet (spec 40 R108; log 1), by draw number. -/
opaque Config.freeAttempt : Nat → Attempt

/-- Free value: `rsp` before the first operation completes (spec 10 R38, 93 U16; log 3). -/
opaque Config.freeResponse : Response

/-- Free value: the latch `op` before the first request (spec 10 R38; log 3). -/
opaque Config.freeOp : Op

/-- Free value: the latch `tag` before the first request (spec 10 R38; log 3). -/
opaque Config.freeTag : Tag

end Sys2Proof
end

