-- ==== Sys2Proof/Syntax.lean ====
section
/-! DEFINITION. Syntax: one constructor per row of spec/opcode_table.json, and the host request record. -/

namespace Sys2Proof

/-- A host request: the record (sel, operands, buf) of spec 30 R89. An operation reads only the operands its row of R89 names. -/
structure Request where
  sel : BitVec 4
  sa0 : BitVec 1 := 0#1
  page : Byte := 0#8
  column : Byte := 0#8
  startPage : Byte := 0#8
  pageSpan : Byte := 0#8
  startColumn : Byte := 0#8
  columnSpan : Byte := 0#8
  buf : List Byte := []
deriving DecidableEq, Repr

/-- The instructions of DPF, in the order of the opcode table: four control bytes (CTRL, spec 30 R82), the command bytes (CMD,
spec 30 R85 and 44), the host requests (HOSTREQ, spec 30 R89). -/
inductive Instr
  | ctrlCmdLast
  | ctrlDataLast
  | ctrlCmdMore
  | ctrlDataMore
  | collo (n : BitVec 4)
  | colhi (n : BitVec 4)
  | addrmode
  | colrange
  | pagerange
  | scrollsetup26
  | scrollsetup27
  | scrollsetupV (v : BitVec 2)
  | scrolloff
  | scrollon
  | startline (l : BitVec 6)
  | contrast
  | chargepump
  | segremap0
  | segremap1
  | vscrollarea
  | entiredispResume
  | entiredispOn
  | normal
  | inverse
  | muxratio
  | displayoff
  | displayon
  | pagestart (p : BitVec 3)
  | comscanNormal
  | comscanRemap
  | dispoffset
  | clockdiv
  | precharge
  | compins
  | vcomh
  | nop
  | getaddr (sa0 : BitVec 1)
  | frameC (buf : List Byte)
  | frameD (buf : List Byte)
  | seek (page column : Byte)
  | init
  | clear
  | write (buf : List Byte) (startPage pageSpan startColumn columnSpan : Byte)
  | reserved7
  | reserved8F (low : BitVec 3)
deriving DecidableEq, Repr

end Sys2Proof
end

