-- ==== Sys2Proof/Machine/State.lean ====
section
/-! DEFINITION. The state of DPF and of its environment as plain data, the refusals, and reset. -/

namespace Sys2Proof.Machine

/-- The addressing modes (spec 10 R28). -/
inductive AddrMode
  | page
  | horizontal
  | vertical
deriving DecidableEq, Repr

/-- The initialization flag (spec 10 R31). -/
inductive InitState
  | notInit
  | done
  | failed
deriving DecidableEq, Repr

/-- The sequencer micro-state: idle, or running with the index of the next burst (spec 10 R32). -/
inductive Seq
  | idle
  | running (k : Nat)
deriving DecidableEq, Repr

/-- How a Transport write ended (spec 10 R34, 40 R108). -/
inductive TxResult
  | ack
  | timeout
deriving DecidableEq, Repr

/-- One entry of the wire history (spec 10 R34). -/
structure WireEntry where
  dev : BitVec 7
  bytes : List Byte
  naks : Nat
  result : TxResult
deriving DecidableEq, Repr

/-- The operand latches (spec 10 R20). The buffer itself is the caller's (`State.callerBuf`); DPF latches its length. -/
structure Latches where
  op : Op
  page : Byte
  column : Byte
  startPage : Byte
  pageSpan : Byte
  startColumn : Byte
  columnSpan : Byte
  sa0 : BitVec 1
  tag : Tag
  bufLen : Nat
deriving DecidableEq, Repr

/-- A Transport write in progress: the bytes handed over and the attempts not acknowledged so far (spec 40 R108). -/
structure PendingWrite where
  bytes : List Byte
  naks : Nat
deriving DecidableEq, Repr

/-- One element of the burst list of an operation (spec 10 R32): a raw burst (FRAME.C, FRAME.D, the Data bursts of CLEAR and
WRITE), a `Seek` with natural-number operands (spec 43), a step of INIT. Not part of State: computed from the latches. -/
inductive Item
  | raw (tag : Tag) (bytes : List Byte)
  | seek (page column : Nat)
  | initStep (bytes : List Byte)
deriving DecidableEq, Repr

/-- The commands the initialization table shows with one parameter byte (spec 20 R59). -/
inductive Param
  | contrast
  | chargePump
  | muxRatio
  | dispOffset
  | clockDiv
  | comPins
deriving DecidableEq, Repr

/-- What the controller's receiver takes the next byte for (spec 30 R80, R81). -/
inductive Expect
  | control
  | payload (tag : Tag)
deriving DecidableEq, Repr

/-- What a finished Transport write leaves for the controller: the bytes of an acknowledged transaction still to be consumed,
or the news that a write timed out (its tag, its payload, its attempts; spec 20 R67, 93 U3). -/
inductive Delivery
  | frame (bytes : List Byte)
  | lost (tag : Tag) (payload : List Byte) (naks : Nat)
deriving DecidableEq, Repr

/-- The controller settings the command bytes of spec 44 name, as far as the document names them (log 9). -/
structure Settings where
  /-- display start line (R190) -/
  startLine : BitVec 6
  /-- contrast (R191) -/
  contrast : Byte
  /-- charge pump (R192) -/
  chargePump : Byte
  /-- segment remap, value 0 or 1 (R193, R194) -/
  segRemap : BitVec 1
  /-- 1: every pixel on; 0: the panel shows the RAM (R196, R197) -/
  entireOn : BitVec 1
  /-- 1: inverse; 0: normal (R198, R199) -/
  inverse : BitVec 1
  /-- mux ratio (R200) -/
  muxRatio : Byte
  /-- 1: panel on (R201, R202) -/
  displayOn : BitVec 1
  /-- 1: COM scan remapped (R204, R205) -/
  comRemap : BitVec 1
  /-- display offset (R206) -/
  dispOffset : Byte
  /-- clock/osc (R207) -/
  clockDiv : Byte
  /-- COM pins config (R209) -/
  comPins : Byte
deriving DecidableEq, Repr

/-- Display RAM as cells in one canonical form (spec 20 R50, R58; log 17): addresses strictly rising, a cell that is not listed
has no known value. -/
abbrev Memory := List Host.Cell

/-- The controller mirror (spec 20 R58 to R60) with its receiver. -/
structure Controller where
  /-- transactions performed and not yet consumed, oldest first (R62 (c)) -/
  inbox : List Delivery
  /-- what the next byte is taken for (R80) -/
  expect : Expect
  /-- continuation flag of the last control byte (R81, R90) -/
  cont : Bool
  /-- the command whose parameter is the next Command payload byte (R59) -/
  param : Option Param
  /-- whether the mirror still has a meaning (R59, R60) -/
  meaning : Bool
  /-- ctlPage (R58) -/
  page : BitVec 3
  /-- ctlCol (R58) -/
  col : Byte
  /-- Gdd (R58), keyed by `gddAddr` -/
  gdd : Memory
  /-- the settings of spec 44 -/
  settings : Settings
deriving DecidableEq, Repr

/-- The whole state: DPF, the caller's side, the Transport, the controller. -/
structure State where
  /-- construction arguments (spec 10 R21 to R27) -/
  cfg : Config
  /-- addressing mode, hard-wired (R28) -/
  addrMode : AddrMode
  /-- curPage (R29) -/
  curPage : BitVec 3
  /-- curCol (R29) -/
  curCol : Byte
  /-- synced (R30) -/
  synced : Bool
  /-- initState (R31) -/
  initState : InitState
  /-- seq (R32) -/
  seq : Seq
  /-- rsp (R33) -/
  rsp : Response
  /-- wire (R34) -/
  wire : List WireEntry
  /-- operand latches (R20) -/
  lat : Latches
  /-- the caller buffer of the current request (spec 20 R50, R52) -/
  callerBuf : List Byte
  /-- the pending Transport write (spec 40 R108) -/
  tx : Option PendingWrite
  /-- attempt outcomes the environment has already decided, next first (spec 40 R108; log 1) -/
  answers : List Attempt
  /-- requests the host has yet to submit, next first (R32; log 2) -/
  host : List Request
  /-- the display controller (spec 20 R58 to R60) -/
  ctl : Controller
  /-- the model's own counter of free values drawn (log 1) -/
  draws : Nat
deriving DecidableEq, Repr

/-- DPF has no stop that is a fault: every error of spec 60 R230 is a response, and the machine goes on. No constructor. -/
inductive Fault
deriving DecidableEq, Repr

/-- Why the model gives a step no meaning. -/
inductive Refusal
  /-- An instruction without a meaning in this model; no arm of exec raises it. Safe. -/
  | notModelled (mnemonic : String)
  /-- Raised by every host request offered while an operation runs: no defined behaviour (spec 20 R66, 93 U2). Safe. -/
  | requestWhileRunning
  /-- Raised by WRITE when the buffer is shorter than the offsets it reads: no meaning (spec 20 R52, 93 U11). Safe. -/
  | bufferTooShort
  /-- Raised by step on a control byte with a nonzero bit in 5:0, which DPF never sends (spec 30 R88, 93 U9). Safe. -/
  | reservedControlByte
deriving DecidableEq, Repr

/-- Every setting at a free value, of draw `d` (spec 91 N12, 20 R59; log 8, log 9). -/
def Settings.free (d : Nat) : Settings :=
  { startLine := Config.freeBits 6 d 2, contrast := Config.freeBits 8 d 3, chargePump := Config.freeBits 8 d 4,
    segRemap := Config.freeBits 1 d 5, entireOn := Config.freeBits 1 d 6, inverse := Config.freeBits 1 d 7,
    muxRatio := Config.freeBits 8 d 8, displayOn := Config.freeBits 1 d 9, comRemap := Config.freeBits 1 d 10,
    dispOffset := Config.freeBits 8 d 11, clockDiv := Config.freeBits 8 d 12, comPins := Config.freeBits 8 d 13 }

/-- The controller at construction: its three parts unspecified (spec 20 R58), nothing received yet. -/
def Controller.atReset : Controller :=
  { inbox := [], expect := .control, cont := false, param := none, meaning := true,
    page := Config.freeBits 3 1 0, col := Config.freeBits 8 1 1, gdd := [], settings := Settings.free 1 }

/-- The operand latches at construction: unspecified (spec 10 R38). -/
def Latches.atReset : Latches :=
  { op := Config.freeOp, page := Config.freeBits 8 0 2, column := Config.freeBits 8 0 3,
    startPage := Config.freeBits 8 0 4, pageSpan := Config.freeBits 8 0 5, startColumn := Config.freeBits 8 0 6,
    columnSpan := Config.freeBits 8 0 7, sa0 := Config.freeBits 1 0 8, tag := Config.freeTag,
    bufLen := (Config.freeBits 32 0 9).toNat }

/-- Construction of an instance (spec 10 R38, 70 R260): the table of R38, unspecified fields at free values (log 3). -/
def State.construct (c : Config) : State :=
  { cfg := c, addrMode := .page, curPage := Config.freeBits 3 0 0, curCol := Config.freeBits 8 0 1, synced := false,
    initState := .notInit, seq := .idle, rsp := Config.freeResponse, wire := [], lat := Latches.atReset, callerBuf := [],
    tx := none, answers := [], host := [], ctl := Controller.atReset, draws := 2 }

/-- The machine right after reset: the reference configuration constructed (log 4). -/
def State.reset : State := State.construct Config.reference

end Sys2Proof.Machine
end

