-- ==== Sys2Proof/Machine/Flags.lean ====
section
/-! DEFINITION. The flag computations: `synced` and the cursor (spec 10 R30, 41 R125, R127), `initState` (spec 10 R31). -/

namespace Sys2Proof.Machine

/-- The cursor registers are inside the geometry (spec 41 R125). -/
def cursorInRange (c : Config) (page : BitVec 3) (col : Byte) : Bool :=
  decide (page.toNat < c.pageCount) && decide (col.toNat < c.segCount)

/-- The post-state of an acknowledged `Seek` (spec 41 R125): the masked operands, and `synced` iff they are in range. -/
def setCursor (page column : Nat) (s : State) : State :=
  let p : BitVec 3 := BitVec.ofNat 3 (page &&& 0x07)
  let c : Byte := BitVec.ofNat 8 (column &&& 0xFF)
  { s with curPage := p, curCol := c, synced := cursorInRange s.cfg p c }

/-- AdvanceCursor(N) (spec 41 R127), after every acknowledged Data burst. -/
def advanceCursor (n : Nat) (s : State) : State :=
  if n = 0 ∨ s.synced = false then s
  else if s.curCol.toNat + n ≤ s.cfg.segCount - 1 then
    { s with curCol := BitVec.ofNat 8 (s.curCol.toNat + n) }
  else
    { s with curCol := BitVec.ofNat 8 (s.cfg.segCount - 1), synced := false }

/-- A non-empty raw Command burst clears `synced` (spec 40 R109). -/
def unsyncAfterRaw (n : Nat) (s : State) : State :=
  if 1 ≤ n then { s with synced := false } else s

/-- A successful INIT sets Done unless the flag is Failed (spec 10 R31, 42 R140). -/
def initStateAfterOk (i : InitState) : InitState :=
  if i = .failed then .failed else .done

end Sys2Proof.Machine
end

