-- ==== Sys2Proof/WellFormed.lean ====
section
/-! DEFINITION. Well-formed instructions. Every operand width is in the types of Syntax; the one check left is WRITE's
precondition on the length of its buffer. -/

namespace Sys2Proof

/-- The instructions whose operands the spec gives a meaning: WRITE's buffer must be long enough for every offset its loop reads
(spec 93 U11, 43 R163, 70 R272); a span of no page or of no column reads nothing. -/
def Instr.wf : Instr → Bool
  | .write buf startPage pageSpan _ columnSpan =>
      decide (pageSpan = 0#8) || decide (columnSpan = 0#8) ||
        decide ((startPage.toNat + pageSpan.toNat) * columnSpan.toNat ≤ buf.length)
  | .ctrlCmdLast | .ctrlDataLast | .ctrlCmdMore | .ctrlDataMore => true
  | .collo _ | .colhi _ | .addrmode | .colrange | .pagerange | .scrollsetup26 | .scrollsetup27 | .scrollsetupV _ => true
  | .scrolloff | .scrollon | .startline _ | .contrast | .chargepump | .segremap0 | .segremap1 | .vscrollarea => true
  | .entiredispResume | .entiredispOn | .normal | .inverse | .muxratio | .displayoff | .displayon | .pagestart _ => true
  | .comscanNormal | .comscanRemap | .dispoffset | .clockdiv | .precharge | .compins | .vcomh | .nop => true
  | .getaddr _ | .frameC _ | .frameD _ | .seek _ _ | .init | .clear | .reserved7 | .reserved8F _ => true

end Sys2Proof
end

