-- ==== Sys2Proof/Decode.lean ====
section
/-! DEFINITION. Decoding and encoding. The opcode table has three formats, each with its own place in the machine: a control
byte (CTRL) and a command byte (CMD) reach the controller over the bus, a request (HOSTREQ) reaches DPF from the host. -/

namespace Sys2Proof

/-- What one instruction is encoded in, by the format of the opcode table. -/
inductive InstrWord
  | ctrl (b : Byte)
  | cmd (b : Byte)
  | req (r : Request)
deriving DecidableEq, Repr

/-- Why a word has no instruction: a control byte with a nonzero bit in 5:0 (spec 30 R88 (a)), or a command byte absent from the
list (spec 44 R212). Every selector of a request has a row, so a request always decodes. -/
inductive DecodeError
  | reservedControlByte (b : Byte)
  | unlistedCommandByte (b : Byte)
deriving DecidableEq, Repr

/-- tagbit(Command) = 0, tagbit(Data) = 1 (spec 00 R9). -/
def Tag.bit : Tag → Byte
  | .command => 0#8
  | .data => 1#8

/-- control byte = (continuation << 7) | (type << 6) (spec 30 R81). -/
def ctrlByte (cont : Bool) (tag : Tag) : Byte :=
  ((if cont then 1#8 else 0#8) <<< 7) ||| (tag.bit <<< 6)

/-- The four control bytes and no others (spec 30 R82, R88). -/
def decodeCtrl (b : Byte) : Except DecodeError Instr :=
  if b = 0x00#8 then .ok .ctrlCmdLast
  else if b = 0x40#8 then .ok .ctrlDataLast
  else if b = 0x80#8 then .ok .ctrlCmdMore
  else if b = 0xC0#8 then .ok .ctrlDataMore
  else .error (.reservedControlByte b)

/-- The command byte map: `byte & mask = match`, the operand in the bits outside the mask (spec 30 R85). -/
def decodeCmd (b : Byte) : Except DecodeError Instr :=
  if b &&& 0xF0#8 = 0x00#8 then .ok (.collo (b.extractLsb' 0 4))
  else if b &&& 0xF0#8 = 0x10#8 then .ok (.colhi (b.extractLsb' 0 4))
  else if b = 0x20#8 then .ok .addrmode
  else if b = 0x21#8 then .ok .colrange
  else if b = 0x22#8 then .ok .pagerange
  else if b = 0x26#8 then .ok .scrollsetup26
  else if b = 0x27#8 then .ok .scrollsetup27
  else if b &&& 0xFC#8 = 0x28#8 then .ok (.scrollsetupV (b.extractLsb' 0 2))
  else if b = 0x2E#8 then .ok .scrolloff
  else if b = 0x2F#8 then .ok .scrollon
  else if b &&& 0xC0#8 = 0x40#8 then .ok (.startline (b.extractLsb' 0 6))
  else if b = 0x81#8 then .ok .contrast
  else if b = 0x8D#8 then .ok .chargepump
  else if b = 0xA0#8 then .ok .segremap0
  else if b = 0xA1#8 then .ok .segremap1
  else if b = 0xA3#8 then .ok .vscrollarea
  else if b = 0xA4#8 then .ok .entiredispResume
  else if b = 0xA5#8 then .ok .entiredispOn
  else if b = 0xA6#8 then .ok .normal
  else if b = 0xA7#8 then .ok .inverse
  else if b = 0xA8#8 then .ok .muxratio
  else if b = 0xAE#8 then .ok .displayoff
  else if b = 0xAF#8 then .ok .displayon
  else if b &&& 0xF8#8 = 0xB0#8 then .ok (.pagestart (b.extractLsb' 0 3))
  else if b = 0xC0#8 then .ok .comscanNormal
  else if b = 0xC8#8 then .ok .comscanRemap
  else if b = 0xD3#8 then .ok .dispoffset
  else if b = 0xD5#8 then .ok .clockdiv
  else if b = 0xD9#8 then .ok .precharge
  else if b = 0xDA#8 then .ok .compins
  else if b = 0xDB#8 then .ok .vcomh
  else if b = 0xE3#8 then .ok .nop
  else .error (.unlistedCommandByte b)

/-- The selectors of the host request (spec 30 R89); 0x7 to 0xF are the reserved ones (R88 (d)). -/
def decodeRequest (r : Request) : Instr :=
  if r.sel = 0x0#4 then .getaddr r.sa0
  else if r.sel = 0x1#4 then .frameC r.buf
  else if r.sel = 0x2#4 then .frameD r.buf
  else if r.sel = 0x3#4 then .seek r.page r.column
  else if r.sel = 0x4#4 then .init
  else if r.sel = 0x5#4 then .clear
  else if r.sel = 0x6#4 then .write r.buf r.startPage r.pageSpan r.startColumn r.columnSpan
  else if r.sel = 0x7#4 then .reserved7
  else .reserved8F (r.sel.extractLsb' 0 3)

/-- The decoder, total on every word of the three formats. -/
def decode : InstrWord → Except DecodeError Instr
  | .ctrl b => decodeCtrl b
  | .cmd b => decodeCmd b
  | .req r => .ok (decodeRequest r)

/-- The encoder: the word of an instruction, from the tables of spec 30 (R82, R85, R89). -/
def encode : Instr → InstrWord
  | .ctrlCmdLast => .ctrl (ctrlByte false .command)
  | .ctrlDataLast => .ctrl (ctrlByte false .data)
  | .ctrlCmdMore => .ctrl (ctrlByte true .command)
  | .ctrlDataMore => .ctrl (ctrlByte true .data)
  | .collo n => .cmd (0x00#8 ||| n.setWidth 8)
  | .colhi n => .cmd (0x10#8 ||| n.setWidth 8)
  | .addrmode => .cmd 0x20#8
  | .colrange => .cmd 0x21#8
  | .pagerange => .cmd 0x22#8
  | .scrollsetup26 => .cmd 0x26#8
  | .scrollsetup27 => .cmd 0x27#8
  | .scrollsetupV v => .cmd (0x28#8 ||| v.setWidth 8)
  | .scrolloff => .cmd 0x2E#8
  | .scrollon => .cmd 0x2F#8
  | .startline l => .cmd (0x40#8 ||| l.setWidth 8)
  | .contrast => .cmd 0x81#8
  | .chargepump => .cmd 0x8D#8
  | .segremap0 => .cmd 0xA0#8
  | .segremap1 => .cmd 0xA1#8
  | .vscrollarea => .cmd 0xA3#8
  | .entiredispResume => .cmd 0xA4#8
  | .entiredispOn => .cmd 0xA5#8
  | .normal => .cmd 0xA6#8
  | .inverse => .cmd 0xA7#8
  | .muxratio => .cmd 0xA8#8
  | .displayoff => .cmd 0xAE#8
  | .displayon => .cmd 0xAF#8
  | .pagestart p => .cmd (0xB0#8 ||| p.setWidth 8)
  | .comscanNormal => .cmd 0xC0#8
  | .comscanRemap => .cmd 0xC8#8
  | .dispoffset => .cmd 0xD3#8
  | .clockdiv => .cmd 0xD5#8
  | .precharge => .cmd 0xD9#8
  | .compins => .cmd 0xDA#8
  | .vcomh => .cmd 0xDB#8
  | .nop => .cmd 0xE3#8
  | .getaddr sa0 => .req { sel := 0x0#4, sa0 := sa0 }
  | .frameC buf => .req { sel := 0x1#4, buf := buf }
  | .frameD buf => .req { sel := 0x2#4, buf := buf }
  | .seek page column => .req { sel := 0x3#4, page := page, column := column }
  | .init => .req { sel := 0x4#4 }
  | .clear => .req { sel := 0x5#4 }
  | .write buf startPage pageSpan startColumn columnSpan =>
      .req { sel := 0x6#4, startPage := startPage, pageSpan := pageSpan, startColumn := startColumn,
             columnSpan := columnSpan, buf := buf }
  | .reserved7 => .req { sel := 0x7#4 }
  | .reserved8F low => .req { sel := 0x8#4 ||| low.setWidth 4 }

/-- Reading a transaction (spec 30 R93): the payload bytes at the odd positions, if the bytes are whole pairs. -/
def txnPayload : List Byte → Option (List Byte)
  | [] => some []
  | [_] => none
  | _ :: b :: rest => (txnPayload rest).map (b :: ·)

/-- Reading a transaction (spec 30 R93): the burst's tag is bit 6 of its first byte. -/
def txnTag : List Byte → Option Tag
  | [] => none
  | c :: _ => some (if c.getLsbD 6 then .data else .command)

/-- The word of one opcode-table row numbered `w`. The table numbers its three formats over the same values, so a number
alone does not name its format; DESIGN CHOICE (log 14): a number below 16 is a host selector, another number a command byte where
the command byte map lists it, and else a control byte. Bits above the byte are dropped. -/
def tableWord (_nbits w : Nat) : InstrWord :=
  let b : Byte := BitVec.ofNat 8 w
  if b.toNat < 16 then .req { sel := b.setWidth 4 }
  else match decodeCmd b with
    | .ok _ => .cmd b
    | .error _ => .ctrl b

/-- The instruction the decoder reads from an opcode-table word (log 14). -/
def decodeTableWord (nbits w : Nat) : Option Instr :=
  match decode (tableWord nbits w) with
  | .ok i => some i
  | .error _ => none

end Sys2Proof
end

