-- ==== Sys2Proof/Machine/Operands.lean ====
section
/-! DEFINITION. The operand forms: buffer reads, the bytes `Seek` assembles, the initialization table, the burst list of each
operation, the conditions on operands. -/

namespace Sys2Proof.Machine

/-- BufRead(buf, i) (spec 20 R52): no value at or beyond the length. -/
def bufRead (buf : List Byte) (i : Nat) : Option Byte := buf[i]?

/-- The bytes at `off` to `off + n - 1` (spec 43 R163), as far as the buffer reaches. -/
def bufSlice (buf : List Byte) (off n : Nat) : List Byte := (buf.drop off).take n

/-- WRITE's precondition (spec 93 U11, 20 R52, 70 R272): every offset its loop reads lies in the buffer. -/
def bufferCovers (buf : List Byte) (startPage pageSpan columnSpan : Byte) : Bool :=
  decide (pageSpan = 0#8) || decide (columnSpan = 0#8) ||
    decide ((startPage.toNat + pageSpan.toNat) * columnSpan.toNat ≤ buf.length)

/-- The three command bytes of `Seek` in their order (spec 41 R121, 30 R87). -/
def seekBytes (page column : Nat) : List Byte :=
  [0xB0#8 ||| BitVec.ofNat 8 (page &&& 0x07),
   0x00#8 ||| BitVec.ofNat 8 (column &&& 0x0F),
   0x10#8 ||| BitVec.ofNat 8 ((column >>> 4) &&& 0x0F)]

/-- INIT_STREAM, the byte list of each step (spec 42 R142). -/
def initStream (c : Config) : List (List Byte) :=
  [[0xA8#8, 0x3F#8],
   [0xD3#8, 0x00#8],
   [0x40#8],
   [0xA1#8],
   [0xC8#8],
   [0xDA#8, c.initComPins],
   [0x81#8, 0x7F#8],
   [0xA4#8],
   [0xA6#8],
   [0xD5#8, c.initClock],
   [0x8D#8, c.initChargePump],
   [0xAF#8]]

/-- One iteration of CLEAR (spec 43 R160). -/
def clearPage (c : Config) (p : Nat) : List Item :=
  [.seek p 0, .raw .data (List.replicate c.segCount 0x00#8)]

/-- One iteration of WRITE (spec 43 R162, R163): the slice starts at the absolute, unmasked page times columnSpan. -/
def writePage (buf : List Byte) (startColumn columnSpan : Byte) (p : Nat) : List Item :=
  [.seek p startColumn.toNat, .raw .data (bufSlice buf (p * columnSpan.toNat) columnSpan.toNat)]

/-- The burst list of the operation in the latches (spec 10 R32). -/
def plan (c : Config) (l : Latches) (buf : List Byte) : List Item :=
  match l.op with
  | .getaddr => []
  | .frameC | .frameD => [.raw l.tag (bufSlice buf 0 l.bufLen)]
  | .seek => [.seek l.page.toNat l.column.toNat]
  | .init => (initStream c).map Item.initStep
  | .clear => (List.range c.pageCount).flatMap (clearPage c)
  | .write => (List.range' l.startPage.toNat l.pageSpan.toNat).flatMap (writePage buf l.startColumn l.columnSpan)

/-- The tag of an item's burst. -/
def Item.tag : Item → Tag
  | .raw t _ => t
  | .seek _ _ => .command
  | .initStep _ => .command

/-- The payload bytes of an item's burst. -/
def Item.payload : Item → List Byte
  | .raw _ bs => bs
  | .seek page column => seekBytes page column
  | .initStep bs => bs

/-- The strict-mode comparison of the unmasked operands of a `Seek` (spec 41 R124). -/
def strictRejects (c : Config) (page column : Nat) : Bool :=
  c.strict && (decide (c.pageCount ≤ page) || decide (c.segCount ≤ column))

/-- The device address of an address-select value (spec 41 R129, 30 R84). -/
def addressOf (sa0 : BitVec 1) : BitVec 7 := 0x3C#7 ||| sa0.setWidth 7

/-- The number of a response code (spec 60 R230). -/
def codeNumber : Code → Nat
  | .ok => 0
  | .busNak => 1
  | .bufferTooLarge => 2
  | .addressOutOfRange => 3
  | .transportTimeout => 4
  | .illegalRequest => 5

end Sys2Proof.Machine
end

