-- ==== Sys2Proof/Machine/Ops.lean ====
section
/-! DEFINITION. The shared operations: display RAM cells, Encode, the Transport, raising an error, running a burst list. -/

namespace Sys2Proof.Machine

/-! ### Display RAM -/

/-- The key of the cell at (page, column) (spec 20 R50; log 17): 256 is the largest SEG_COUNT, so no two cells share a key. -/
def gddAddr (page col : Nat) : Nat := page * 256 + col

/-- One cell; `none`: no known value. -/
def Memory.read : Memory → Nat → Option Byte
  | [], _ => none
  | (b, v) :: m, a => if b = a then some v else Memory.read m a

/-- Storing a byte, the canonical form kept. -/
def Memory.write : Memory → Nat → Byte → Memory
  | [], a, v => [(a, v)]
  | (b, w) :: m, a, v =>
      if a < b then (a, v) :: (b, w) :: m
      else if a = b then (a, v) :: m
      else (b, w) :: Memory.write m a v

/-- Forgetting a cell: its value is unknown from here on (spec 93 U3). -/
def Memory.forget : Memory → Nat → Memory
  | [], _ => []
  | (b, w) :: m, a => if a = b then m else (b, w) :: Memory.forget m a

/-- The canonical form: addresses strictly rising. -/
def Memory.wf : Memory → Bool
  | [] => true
  | [_] => true
  | (a, _) :: (b, w) :: m => decide (a < b) && Memory.wf ((b, w) :: m)

/-- Pixel row `row`, column `col` of the display RAM: bit `row mod 8` of the byte at page `row / 8` (spec 20 R51). -/
def pixel (m : Memory) (row col : Nat) : Option Bool :=
  (Memory.read m (gddAddr (row / 8) col)).map (fun v => v.getLsbD (row % 8))

/-! ### Packet Codec -/

/-- The continuation flag of pair `i` of `n` (spec 40 R100, 30 R83). -/
def contFlag (policy : Policy) (i n : Nat) : Bool :=
  match policy with
  | .noContinue => false
  | .lastTerminates => decide (i < n - 1)

/-- The loop of Encode from pair `i` of `n` on (spec 40 R100). -/
def encodePairs (policy : Policy) (tag : Tag) (n : Nat) : Nat → List Byte → List Byte
  | _, [] => []
  | i, b :: bs => ctrlByte (contFlag policy i n) tag :: b :: encodePairs policy tag n (i + 1) bs

/-- Encode(tag, bytes) (spec 40 R100). -/
def encodeBurst (policy : Policy) (tag : Tag) (bytes : List Byte) : List Byte :=
  encodePairs policy tag bytes.length 0 bytes

/-! ### Errors -/

/-- `raise E(info)` (spec 60 R238): the operation stops here, the response is written, the sequencer is idle; nothing sent is
undone and no other field changes. -/
def raise (code : Code) (info : Info) (s : State) : State :=
  { s with rsp := { code := code, info := info }, seq := .idle }

/-- The end of an operation that ran to its end (spec 10 R33, 60 R230): response Ok, with the address for GETADDR; INIT marks its
flag (spec 42 R140). There is no return beyond being idle again (spec 60 R239). -/
def finish (s : State) : State :=
  match s.lat.op with
  | .getaddr => { s with rsp := { code := .ok, info := .device (addressOf s.lat.sa0) }, seq := .idle }
  | .init => { s with rsp := { code := .ok, info := .none }, seq := .idle, initState := initStateAfterOk s.initState }
  | .frameC | .frameD | .seek | .clear | .write => { s with rsp := { code := .ok, info := .none }, seq := .idle }

/-! ### The Transport -/

/-- How a run of attempts ends: acknowledged, out of attempts, or without a further outcome decided yet. -/
inductive AttemptsEnd
  | acked (naks : Nat) (rest : List Attempt)
  | timedOut (naks : Nat) (rest : List Attempt)
  | waiting (naks : Nat)
deriving DecidableEq, Repr

/-- The loop of TxWrite over the outcomes decided so far (spec 40 R108). -/
def attempts (limit : Option Nat) : Nat → List Attempt → AttemptsEnd
  | naks, [] => .waiting naks
  | naks, .ack :: rest => .acked naks rest
  | naks, .nak :: rest =>
      if limit = some (naks + 1) then .timedOut (naks + 1) rest else attempts limit (naks + 1) rest

/-- How one burst ends: it completed, it raised an error, or its write still waits for the environment. -/
inductive BurstEnd
  | done (s : State)
  | raised (code : Code) (info : Info) (s : State)
  | blocked (s : State)
deriving DecidableEq, Repr

/-- What an acknowledged burst does to DPF's state (spec 40 R109, R110; 41 R125, R127). -/
def Item.onAck (it : Item) (s : State) : State :=
  match it with
  | .raw .command bytes => unsyncAfterRaw bytes.length s
  | .raw .data bytes => advanceCursor bytes.length s
  | .seek page column => setCursor page column s
  | .initStep _ => s

/-- What a timed-out burst does to DPF's state (spec 60 R234; 42 R140). -/
def Item.onTimeout (it : Item) (s : State) : State :=
  match it with
  | .raw _ _ => { s with synced := false }
  | .seek _ _ => { s with synced := false }
  | .initStep _ => { s with synced := false, initState := .failed }

/-- A finished write enters the wire history (spec 40 R108) and reaches the controller (spec 20 R62, R67). -/
def record (bytes : List Byte) (naks : Nat) (result : TxResult) (d : Delivery) (s : State) : State :=
  { s with wire := s.wire ++ [{ dev := s.cfg.devAddr, bytes := bytes, naks := naks, result := result }],
           ctl := { s.ctl with inbox := s.ctl.inbox ++ [d] } }

/-- TxWrite of the item's encoded burst and the burst's end (spec 40 R107, R108), `w.naks` attempts having failed already. With
no further outcome decided the write stays pending. -/
def transmit (it : Item) (w : PendingWrite) (s : State) : BurstEnd :=
  match attempts s.cfg.retryLimit w.naks s.answers with
  | .acked naks rest =>
      .done (it.onAck (record w.bytes naks .ack (.frame w.bytes) { s with tx := none, answers := rest }))
  | .timedOut naks rest =>
      .raised .transportTimeout .none
        (it.onTimeout (record w.bytes naks .timeout (.lost it.tag it.payload naks)
          { s with tx := none, answers := rest }))
  | .waiting naks => .blocked { s with tx := some { w with naks := naks }, answers := [] }

/-- `Burst` with the checks before it (spec 40 R107; 41 R120): the strict check of a `Seek`, the size check, the empty burst,
the write. -/
def burst (bytes : List Byte) (it : Item) (s : State) : BurstEnd :=
  if s.cfg.maxBurst < bytes.length then .raised .bufferTooLarge (.count bytes.length) s
  else if bytes = [] then .done (it.onAck s)
  else transmit it { bytes := encodeBurst s.cfg.policy it.tag bytes, naks := 0 } s

/-- Starting one item of a burst list, in the order of spec 60 R237. -/
def startItem (it : Item) (s : State) : BurstEnd :=
  match it with
  | .seek page column =>
      if strictRejects s.cfg page column then .raised .addressOutOfRange (.address page column) s
      else burst (seekBytes page column) it s
  | .raw _ bytes => burst bytes it s
  | .initStep bytes => burst bytes it s

/-! ### The sequencer -/

/-- A completed burst: `seq <- Running(k + 1)` (spec 10 R32). -/
def nextBurst (s : State) : State :=
  match s.seq with
  | .idle => s
  | .running k => { s with seq := .running (k + 1) }

/-- Running the rest of a burst list (spec 10 R32, 60 R238): to its end, to the first error, or to a write whose outcome the
environment has not decided. -/
def runItems : List Item → State → State
  | [], s => finish s
  | it :: rest, s =>
      match startItem it s with
      | .done s' => runItems rest (nextBurst s')
      | .raised code info s' => raise code info s'
      | .blocked s' => s'

/-- Going on with the running operation: the pending write first, then the rest of the burst list (spec 10 R32). -/
def resume (s : State) : State :=
  match s.seq with
  | .idle => s
  | .running k =>
      match (plan s.cfg s.lat s.callerBuf).drop k, s.tx with
      | it :: rest, some w =>
          match transmit it w s with
          | .done s' => runItems rest (nextBurst s')
          | .raised code info s' => raise code info s'
          | .blocked s' => s'
      | items, _ => runItems items s

/-- Accepting a request (spec 10 R32): only when idle (spec 20 R66); the operands are latched (R20) and the burst list run. -/
def accept (load : Latches → Latches) (buf : List Byte) (s : State) : Host.Outcome State Fault Refusal :=
  if s.seq = .idle then
    let lat := load s.lat
    .next (runItems (plan s.cfg lat buf) { s with lat := lat, callerBuf := buf, seq := .running 0 })
  else .refused .requestWhileRunning

/-- Where the environment has decided no further outcome, it decides the next one: a free value (spec 40 R108; log 1). -/
def drawAttempt (s : State) : State :=
  if s.answers = [] then { s with answers := [Config.freeAttempt s.draws], draws := s.draws + 1 } else s

end Sys2Proof.Machine
end

