-- ==== Sys2Proof/Machine/Mirror.lean ====
section
/-! DEFINITION. The controller mirror (spec 20 R58 to R60, R67): what a consumed byte does to it. Consuming pairs in order, and
ignoring the continuation flag, is spec 92 D21's. -/

namespace Sys2Proof.Machine

/-- The mirror has no meaning from here on (spec 20 R59, R60, 93 U5, U13): its parts, and the settings a misread parameter could
have reached, are at free values, and no display RAM cell has a known value (log 8). -/
def voidMirror (s : State) : State :=
  { s with ctl := { s.ctl with param := none, meaning := false, page := Config.freeBits 3 s.draws 0,
                               col := Config.freeBits 8 s.draws 1, gdd := [], settings := Settings.free s.draws },
           draws := s.draws + 1 }

/-- A listed Command byte acting on the mirror, as long as the mirror has a meaning (spec 20 R59). -/
def onMirror (f : Controller → Controller) (s : State) : State :=
  if s.ctl.meaning then { s with ctl := f s.ctl } else voidMirror s

/-- Writing one setting (spec 44; log 9). -/
def onSettings (f : Settings → Settings) (c : Controller) : Controller :=
  { c with settings := f c.settings }

/-- The next Command payload byte is this command's parameter (spec 20 R59). -/
def awaitParam (p : Param) (c : Controller) : Controller :=
  { c with param := some p }

/-- The setting a parameter byte is for (spec 44 R191, R192, R200, R206, R207, R209; log 9). -/
def Settings.setParam (p : Param) (v : Byte) (t : Settings) : Settings :=
  match p with
  | .contrast => { t with contrast := v }
  | .chargePump => { t with chargePump := v }
  | .muxRatio => { t with muxRatio := v }
  | .dispOffset => { t with dispOffset := v }
  | .clockDiv => { t with clockDiv := v }
  | .comPins => { t with comPins := v }

/-- A parameter byte: skipped without effect on the mirror's cursor and RAM, whatever its value (spec 20 R59). -/
def takeParam (p : Param) (v : Byte) (s : State) : State :=
  onMirror (fun c => { c with param := none, settings := c.settings.setParam p v }) s

/-- The mirror's cursor is inside the geometry (spec 20 R60). -/
def mirrorInRange (s : State) : Bool :=
  decide (s.ctl.page.toNat < s.cfg.pageCount) && decide (s.ctl.col.toNat < s.cfg.segCount)

/-- The address a Data payload byte is stored at (spec 20 R60). -/
def dataAddr (s : State) : Nat := gddAddr s.ctl.page.toNat s.ctl.col.toNat

/-- A Data payload byte (spec 20 R60): stored at the cursor, the column advances and wraps inside its page; at an out-of-range
cursor the mirror loses its meaning. -/
def takeData (v : Byte) (s : State) : State :=
  if s.ctl.meaning && mirrorInRange s then
    { s with ctl := { s.ctl with gdd := Memory.write s.ctl.gdd (dataAddr s) v,
                                 col := BitVec.ofNat 8 ((s.ctl.col.toNat + 1) % s.cfg.segCount) } }
  else voidMirror s

/-- Forgetting `n` cells of a page from a column on, wrapping inside the page (spec 93 U3, 20 R54). -/
def forgetRow (segCount page col : Nat) : Nat → Memory → Memory
  | 0, m => m
  | n + 1, m => forgetRow segCount page ((col + 1) % segCount) n (Memory.forget m (gddAddr page col))

/-- The parameter a command byte is followed by (spec 20 R59). -/
def paramOf : Instr → Option Param
  | .contrast => some .contrast
  | .chargepump => some .chargePump
  | .muxratio => some .muxRatio
  | .dispoffset => some .dispOffset
  | .clockdiv => some .clockDiv
  | .compins => some .comPins
  | .ctrlCmdLast | .ctrlDataLast | .ctrlCmdMore | .ctrlDataMore => none
  | .collo _ | .colhi _ | .addrmode | .colrange | .pagerange | .scrollsetup26 | .scrollsetup27 | .scrollsetupV _ => none
  | .scrolloff | .scrollon | .startline _ | .segremap0 | .segremap1 | .vscrollarea | .entiredispResume | .entiredispOn => none
  | .normal | .inverse | .displayoff | .displayon | .pagestart _ | .comscanNormal | .comscanRemap => none
  | .precharge | .vcomh | .nop | .getaddr _ | .frameC _ | .frameD _ | .seek _ _ | .init | .clear => none
  | .write _ _ _ _ _ | .reserved7 | .reserved8F _ => none

/-- The setting of a parameter at a free value of draw `d`. -/
def Settings.forgetParam (d : Nat) (p : Param) (t : Settings) : Settings :=
  t.setParam p
    (match p with
      | .contrast => (Settings.free d).contrast
      | .chargePump => (Settings.free d).chargePump
      | .muxRatio => (Settings.free d).muxRatio
      | .dispOffset => (Settings.free d).dispOffset
      | .clockDiv => (Settings.free d).clockDiv
      | .comPins => (Settings.free d).comPins)

/-- The setting a command byte writes by itself at a free value of draw `d`; after a command whose parameter count is not given
every setting, since the bytes that follow could be read either way (spec 20 R59). -/
def Settings.forgetCommand (d : Nat) (i : Instr) (t : Settings) : Settings :=
  match i with
  | .startline _ => { t with startLine := (Settings.free d).startLine }
  | .segremap0 | .segremap1 => { t with segRemap := (Settings.free d).segRemap }
  | .entiredispResume | .entiredispOn => { t with entireOn := (Settings.free d).entireOn }
  | .normal | .inverse => { t with inverse := (Settings.free d).inverse }
  | .displayoff | .displayon => { t with displayOn := (Settings.free d).displayOn }
  | .comscanNormal | .comscanRemap => { t with comRemap := (Settings.free d).comRemap }
  | .addrmode | .colrange | .pagerange | .scrollsetup26 | .scrollsetup27 | .scrollsetupV _ => Settings.free d
  | .scrolloff | .scrollon | .vscrollarea | .precharge | .vcomh => Settings.free d
  | .ctrlCmdLast | .ctrlDataLast | .ctrlCmdMore | .ctrlDataMore | .collo _ | .colhi _ | .pagestart _ | .nop => t
  | .contrast | .chargepump | .muxratio | .dispoffset | .clockdiv | .compins => t
  | .getaddr _ | .frameC _ | .frameD _ | .seek _ _ | .init | .clear | .write _ _ _ _ _ | .reserved7 | .reserved8F _ => t

/-- The settings after a Command burst whose effect is unknown (spec 60 R238; log 7): those its bytes name are at free values of
draw `d`, every other one is as it was (spec 42 R145: what was acknowledged before stays applied). -/
def forgetSettings (d : Nat) : Option Param → List Byte → Settings → Settings
  | _, [], t => t
  | some p, _ :: bs, t => forgetSettings d none bs (t.forgetParam d p)
  | none, b :: bs, t =>
      match decodeCmd b with
      | .ok i => forgetSettings d (paramOf i) bs (t.forgetCommand d i)
      | .error _ => Settings.free d

/-- The mirror after a write that timed out (spec 20 R67, 93 U3; log 7): its cursor is unknown; a Data burst makes the cells its
attempts could have reached unknown, a Command burst the settings its bytes name. -/
def takeLost (tag : Tag) (payload : List Byte) (naks : Nat) (s : State) : State :=
  match tag with
  | .command =>
      if s.ctl.meaning then
        { s with ctl := { s.ctl with page := Config.freeBits 3 s.draws 0, col := Config.freeBits 8 s.draws 1,
                                     settings := forgetSettings s.draws s.ctl.param payload s.ctl.settings },
                 draws := s.draws + 1 }
      else voidMirror s
  | .data =>
      if s.ctl.meaning && mirrorInRange s then
        { s with ctl := { s.ctl with page := Config.freeBits 3 s.draws 0, col := Config.freeBits 8 s.draws 1,
                                     gdd := forgetRow s.cfg.segCount s.ctl.page.toNat s.ctl.col.toNat
                                              (min (payload.length * naks) s.cfg.segCount) s.ctl.gdd },
                 draws := s.draws + 1 }
      else voidMirror s

/-- A control byte (spec 30 R81): its type tags the next payload byte, its continuation flag is kept. -/
def takeControl (cont : Bool) (tag : Tag) (s : State) : State :=
  { s with ctl := { s.ctl with expect := .payload tag, cont := cont } }

end Sys2Proof.Machine
end

