-- ==== Sys2Proof/Machine/Command.lean ====
section
/-! DEFINITION. The meanings of the 32 command bytes (spec 44), as the controller mirror receives them (spec 20 R59). -/

namespace Sys2Proof.Machine

/-! ### Cursor commands -/

/-- COLLO n: the low nibble of the column (R180, 20 R59). -/
def execCollo (n : BitVec 4) (s : State) : Host.Outcome State Fault Refusal :=
  .next (onMirror (fun c => { c with col := (c.col &&& 0xF0#8) ||| n.setWidth 8 }) s)

/-- COLHI n: the high nibble of the column (R181, 20 R59). -/
def execColhi (n : BitVec 4) (s : State) : Host.Outcome State Fault Refusal :=
  .next (onMirror (fun c => { c with col := (n.setWidth 8 <<< 4) ||| (c.col &&& 0x0F#8) }) s)

/-- PAGESTART p: the page register (R203, 20 R59). -/
def execPagestart (p : BitVec 3) (s : State) : Host.Outcome State Fault Refusal :=
  .next (onMirror (fun c => { c with page := p }) s)

/-! ### Commands of the initialization table -/

/-- STARTLINE l: the display start line; no effect on cursor and RAM (R190; placement of `l` is general knowledge G3, log 10). -/
def execStartline (l : BitVec 6) (s : State) : Host.Outcome State Fault Refusal :=
  .next (onMirror (onSettings (fun t => { t with startLine := l })) s)

/-- CONTRAST: one parameter byte follows (R191). -/
def execContrast (s : State) : Host.Outcome State Fault Refusal :=
  .next (onMirror (awaitParam .contrast) s)

/-- CHARGEPUMP: one parameter byte follows (R192). -/
def execChargepump (s : State) : Host.Outcome State Fault Refusal :=
  .next (onMirror (awaitParam .chargePump) s)

/-- SEGREMAP.1: segment remap 1; does not change where a byte lands (R194). -/
def execSegremap1 (s : State) : Host.Outcome State Fault Refusal :=
  .next (onMirror (onSettings (fun t => { t with segRemap := 1#1 })) s)

/-- ENTIREDISP.RESUME: the panel shows the RAM (R196; polarity is general knowledge G2, log 10). -/
def execEntiredispResume (s : State) : Host.Outcome State Fault Refusal :=
  .next (onMirror (onSettings (fun t => { t with entireOn := 0#1 })) s)

/-- NORMAL: no inversion (R198). -/
def execNormal (s : State) : Host.Outcome State Fault Refusal :=
  .next (onMirror (onSettings (fun t => { t with inverse := 0#1 })) s)

/-- MUXRATIO: one parameter byte follows (R200). -/
def execMuxratio (s : State) : Host.Outcome State Fault Refusal :=
  .next (onMirror (awaitParam .muxRatio) s)

/-- DISPLAYON: panel active (R202; polarity is general knowledge G2, log 10). -/
def execDisplayon (s : State) : Host.Outcome State Fault Refusal :=
  .next (onMirror (onSettings (fun t => { t with displayOn := 1#1 })) s)

/-- COMSCAN.REMAP: scan from the last common output (R205; polarity is general knowledge G2, log 10). -/
def execComscanRemap (s : State) : Host.Outcome State Fault Refusal :=
  .next (onMirror (onSettings (fun t => { t with comRemap := 1#1 })) s)

/-- DISPOFFSET: one parameter byte follows (R206). -/
def execDispoffset (s : State) : Host.Outcome State Fault Refusal :=
  .next (onMirror (awaitParam .dispOffset) s)

/-- CLOCKDIV: one parameter byte follows (R207). -/
def execClockdiv (s : State) : Host.Outcome State Fault Refusal :=
  .next (onMirror (awaitParam .clockDiv) s)

/-- COMPINS: one parameter byte follows (R209). -/
def execCompins (s : State) : Host.Outcome State Fault Refusal :=
  .next (onMirror (awaitParam .comPins) s)

/-! ### Listed commands DPF never emits by itself -/

/-- ADDRMODE: the mirror has no meaning from here on (R182). -/
def execAddrmode (s : State) : Host.Outcome State Fault Refusal :=
  .next (voidMirror s)

/-- COLRANGE: the mirror has no meaning from here on (R183). -/
def execColrange (s : State) : Host.Outcome State Fault Refusal :=
  .next (voidMirror s)

/-- PAGERANGE: the mirror has no meaning from here on (R184). -/
def execPagerange (s : State) : Host.Outcome State Fault Refusal :=
  .next (voidMirror s)

/-- SCROLLSETUP.26: the mirror has no meaning from here on (R185). -/
def execScrollsetup26 (s : State) : Host.Outcome State Fault Refusal :=
  .next (voidMirror s)

/-- SCROLLSETUP.27: the mirror has no meaning from here on (R186). -/
def execScrollsetup27 (s : State) : Host.Outcome State Fault Refusal :=
  .next (voidMirror s)

/-- SCROLLSETUP.V v: the mirror has no meaning from here on; the meaning of `v` is not stated (R187). -/
def execScrollsetupV (_v : BitVec 2) (s : State) : Host.Outcome State Fault Refusal :=
  .next (voidMirror s)

/-- SCROLLOFF: the mirror has no meaning from here on (R188). -/
def execScrolloff (s : State) : Host.Outcome State Fault Refusal :=
  .next (voidMirror s)

/-- SCROLLON: the mirror has no meaning from here on (R189). -/
def execScrollon (s : State) : Host.Outcome State Fault Refusal :=
  .next (voidMirror s)

/-- SEGREMAP.0: segment remap 0, no column mirroring (R193). -/
def execSegremap0 (s : State) : Host.Outcome State Fault Refusal :=
  .next (onMirror (onSettings (fun t => { t with segRemap := 0#1 })) s)

/-- VSCROLLAREA: the mirror has no meaning from here on (R195). -/
def execVscrollarea (s : State) : Host.Outcome State Fault Refusal :=
  .next (voidMirror s)

/-- ENTIREDISP.ON: every pixel on; the RAM is not changed (R197; general knowledge G2, G4, log 10). -/
def execEntiredispOn (s : State) : Host.Outcome State Fault Refusal :=
  .next (onMirror (onSettings (fun t => { t with entireOn := 1#1 })) s)

/-- INVERSE: the RAM content shown inverted; the RAM is not changed (R199). -/
def execInverse (s : State) : Host.Outcome State Fault Refusal :=
  .next (onMirror (onSettings (fun t => { t with inverse := 1#1 })) s)

/-- DISPLAYOFF: panel off; RAM and cursor are not changed (R201; general knowledge G2, G4, log 10). -/
def execDisplayoff (s : State) : Host.Outcome State Fault Refusal :=
  .next (onMirror (onSettings (fun t => { t with displayOn := 0#1 })) s)

/-- COMSCAN.NORMAL: scan from the first common output (R204; polarity is general knowledge G2, log 10). -/
def execComscanNormal (s : State) : Host.Outcome State Fault Refusal :=
  .next (onMirror (onSettings (fun t => { t with comRemap := 0#1 })) s)

/-- PRECHARGE: the mirror has no meaning from here on, the parameter count being unknown (R208). -/
def execPrecharge (s : State) : Host.Outcome State Fault Refusal :=
  .next (voidMirror s)

/-- VCOMH: the mirror has no meaning from here on (R210). -/
def execVcomh (s : State) : Host.Outcome State Fault Refusal :=
  .next (voidMirror s)

/-- NOP: no effect (R211). -/
def execNop (s : State) : Host.Outcome State Fault Refusal :=
  .next (onMirror id s)

end Sys2Proof.Machine
end

