-- ==== Sys2Proof/Machine/Control.lean ====
section
/-! DEFINITION. The meanings of the four control bytes (spec 30 R81, R82), as the controller receives them. -/

namespace Sys2Proof.Machine

/-- CTRL.CMD.LAST, 0x00: no pair follows, the payload is a Command byte (R82). -/
def execCtrlCmdLast (s : State) : Host.Outcome State Fault Refusal := .next (takeControl false .command s)

/-- CTRL.DATA.LAST, 0x40: no pair follows, the payload is a Data byte (R82). -/
def execCtrlDataLast (s : State) : Host.Outcome State Fault Refusal := .next (takeControl false .data s)

/-- CTRL.CMD.MORE, 0x80: a pair follows, the payload is a Command byte (R82). -/
def execCtrlCmdMore (s : State) : Host.Outcome State Fault Refusal := .next (takeControl true .command s)

/-- CTRL.DATA.MORE, 0xC0: a pair follows, the payload is a Data byte (R82). -/
def execCtrlDataMore (s : State) : Host.Outcome State Fault Refusal := .next (takeControl true .data s)

end Sys2Proof.Machine
end

