-- ==== Sys2Proof/Machine/Request.lean ====
section
/-! DEFINITION. The meanings of the host requests. Each latches its operands and runs the burst list of its operation
(`plan`, `runItems`) as far as the outcomes decided in `answers` carry it: to the response, or to a write that waits for the
environment, which step goes on with (log 1, log 20). -/

namespace Sys2Proof.Machine

/-- GETADDR sa0: answers the address, sends nothing (spec 41 R129). -/
def execGetaddr (sa0 : BitVec 1) (s : State) : Host.Outcome State Fault Refusal :=
  accept (fun l => { l with op := .getaddr, sa0 := sa0 }) s.callerBuf s

/-- FRAME.C buf: one raw Command burst (spec 40 R109). -/
def execFrameC (buf : List Byte) (s : State) : Host.Outcome State Fault Refusal :=
  accept (fun l => { l with op := .frameC, tag := .command, bufLen := buf.length }) buf s

/-- FRAME.D buf: one raw Data burst at the current cursor (spec 40 R110). -/
def execFrameD (buf : List Byte) (s : State) : Host.Outcome State Fault Refusal :=
  accept (fun l => { l with op := .frameD, tag := .data, bufLen := buf.length }) buf s

/-- SEEK page, column (spec 41 R120). -/
def execSeek (page column : Byte) (s : State) : Host.Outcome State Fault Refusal :=
  accept (fun l => { l with op := .seek, page := page, column := column }) s.callerBuf s

/-- INIT: the twelve steps of INIT_STREAM (spec 42 R140). -/
def execInit (s : State) : Host.Outcome State Fault Refusal :=
  accept (fun l => { l with op := .init }) s.callerBuf s

/-- CLEAR: every page from 0 up, a `Seek` and a Data burst of zeros (spec 43 R160). -/
def execClear (s : State) : Host.Outcome State Fault Refusal :=
  accept (fun l => { l with op := .clear }) s.callerBuf s

/-- WRITE buf, startPage, pageSpan, startColumn, columnSpan (spec 43 R162). A buffer too short for the offsets the loop reads has
no meaning: the operation is refused as a whole (spec 20 R52, 93 U11, 95 V98; log 11). -/
def execWrite (buf : List Byte) (startPage pageSpan startColumn columnSpan : Byte) (s : State) :
    Host.Outcome State Fault Refusal :=
  if bufferCovers buf startPage pageSpan columnSpan then
    accept (fun l => { l with op := .write, startPage := startPage, pageSpan := pageSpan, startColumn := startColumn,
                              columnSpan := columnSpan, bufLen := buf.length }) buf s
  else if s.seq = .idle then .refused .bufferTooShort
  else .refused .requestWhileRunning

/-- A reserved selector is answered with IllegalRequest and does nothing else (spec 60 R235, 30 R88 (d)). -/
def illegalRequest (sel : BitVec 4) (s : State) : Host.Outcome State Fault Refusal :=
  if s.seq = .idle then .next (raise .illegalRequest (.selector sel) s) else .refused .requestWhileRunning

/-- RESERVED.7: selector 0x7 (spec 60 R235). -/
def execReserved7 (s : State) : Host.Outcome State Fault Refusal := illegalRequest 0x7#4 s

/-- RESERVED.8-F: selectors 0x8 to 0xF (spec 60 R235). -/
def execReserved8F (low : BitVec 3) (s : State) : Host.Outcome State Fault Refusal :=
  illegalRequest (0x8#4 ||| low.setWidth 4) s

end Sys2Proof.Machine
end

