-- ==== Sys2Proof/Machine/Dispatch.lean ====
section
/-! DEFINITION. One arm per instruction. -/

namespace Sys2Proof.Machine

def exec (i : Instr) (s : State) : Host.Outcome State Fault Refusal :=
  match i with
  | .ctrlCmdLast => Sys2Proof.Machine.execCtrlCmdLast s
  | .ctrlDataLast => Sys2Proof.Machine.execCtrlDataLast s
  | .ctrlCmdMore => Sys2Proof.Machine.execCtrlCmdMore s
  | .ctrlDataMore => Sys2Proof.Machine.execCtrlDataMore s
  | .collo n => Sys2Proof.Machine.execCollo n s
  | .colhi n => Sys2Proof.Machine.execColhi n s
  | .addrmode => Sys2Proof.Machine.execAddrmode s
  | .colrange => Sys2Proof.Machine.execColrange s
  | .pagerange => Sys2Proof.Machine.execPagerange s
  | .scrollsetup26 => Sys2Proof.Machine.execScrollsetup26 s
  | .scrollsetup27 => Sys2Proof.Machine.execScrollsetup27 s
  | .scrollsetupV v => Sys2Proof.Machine.execScrollsetupV v s
  | .scrolloff => Sys2Proof.Machine.execScrolloff s
  | .scrollon => Sys2Proof.Machine.execScrollon s
  | .startline l => Sys2Proof.Machine.execStartline l s
  | .contrast => Sys2Proof.Machine.execContrast s
  | .chargepump => Sys2Proof.Machine.execChargepump s
  | .segremap0 => Sys2Proof.Machine.execSegremap0 s
  | .segremap1 => Sys2Proof.Machine.execSegremap1 s
  | .vscrollarea => Sys2Proof.Machine.execVscrollarea s
  | .entiredispResume => Sys2Proof.Machine.execEntiredispResume s
  | .entiredispOn => Sys2Proof.Machine.execEntiredispOn s
  | .normal => Sys2Proof.Machine.execNormal s
  | .inverse => Sys2Proof.Machine.execInverse s
  | .muxratio => Sys2Proof.Machine.execMuxratio s
  | .displayoff => Sys2Proof.Machine.execDisplayoff s
  | .displayon => Sys2Proof.Machine.execDisplayon s
  | .pagestart p => Sys2Proof.Machine.execPagestart p s
  | .comscanNormal => Sys2Proof.Machine.execComscanNormal s
  | .comscanRemap => Sys2Proof.Machine.execComscanRemap s
  | .dispoffset => Sys2Proof.Machine.execDispoffset s
  | .clockdiv => Sys2Proof.Machine.execClockdiv s
  | .precharge => Sys2Proof.Machine.execPrecharge s
  | .compins => Sys2Proof.Machine.execCompins s
  | .vcomh => Sys2Proof.Machine.execVcomh s
  | .nop => Sys2Proof.Machine.execNop s
  | .getaddr sa0 => Sys2Proof.Machine.execGetaddr sa0 s
  | .frameC buf => Sys2Proof.Machine.execFrameC buf s
  | .frameD buf => Sys2Proof.Machine.execFrameD buf s
  | .seek page column => Sys2Proof.Machine.execSeek page column s
  | .init => Sys2Proof.Machine.execInit s
  | .clear => Sys2Proof.Machine.execClear s
  | .write buf startPage pageSpan startColumn columnSpan => Sys2Proof.Machine.execWrite buf startPage pageSpan startColumn columnSpan s
  | .reserved7 => Sys2Proof.Machine.execReserved7 s
  | .reserved8F low => Sys2Proof.Machine.execReserved8F low s

end Sys2Proof.Machine
end

