-- ==== Sys2Proof/Machine/Fetch.lean ====
section
/-! DEFINITION. What the next step works on: which agent moves (spec 00 R6), and the instruction word it reads. -/

namespace Sys2Proof.Machine

/-- What a step works on: an instruction word with the state after it has been taken, or a step of an agent that reads no
instruction. -/
inductive Fetched
  | word (w : InstrWord) (s : State)
  | internal (s : State)
deriving DecidableEq, Repr

/-- The controller takes a byte: the inbox moves past it (`rest` are the other bytes of its transaction) and the byte after a
payload byte is a control byte again (spec 30 R80; `takeControl` says otherwise of a control byte). -/
def takeByte (rest : List Byte) (later : List Delivery) (s : State) : State :=
  { s with ctl := { s.ctl with inbox := if rest = [] then later else .frame rest :: later, expect := .control } }

/-- The controller's turn for byte `b`, already taken (spec 20 R58: dispatch on the control byte's bit 6; R59: a parameter byte is
no opcode). `expect` and `param` are those before the byte. -/
def fetchByte (expect : Expect) (param : Option Param) (b : Byte) (s : State) : Fetched :=
  match expect with
  | .control => .word (.ctrl b) s
  | .payload .data => .internal (takeData b s)
  | .payload .command =>
      match param with
      | some p => .internal (takeParam p b s)
      | none => .word (.cmd b) s

/-- Who moves (spec 00 R6, 20 R62): the controller while its inbox holds something, then the Transport while an operation runs,
then the framer with the host's next request; with none of them, nobody (log 2, log 5). -/
def fetch (s : State) : Fetched :=
  match s.ctl.inbox with
  | .frame (b :: rest) :: later => fetchByte s.ctl.expect s.ctl.param b (takeByte rest later s)
  | .frame [] :: later => .internal { s with ctl := { s.ctl with inbox := later } }
  | .lost tag payload naks :: later => .internal (takeLost tag payload naks { s with ctl := { s.ctl with inbox := later } })
  | [] =>
      match s.seq, s.host with
      | .running _, _ => .internal (resume (drawAttempt s))
      | .idle, r :: later => .word (.req r) { s with host := later }
      | .idle, [] => .internal s

/-- A word without an instruction: an unlisted command byte leaves the mirror without a meaning (spec 20 R59, 44 R212); a
reserved control byte has none in the model (spec 30 R88, 93 U9). -/
def rejectWord (e : DecodeError) (s : State) : Host.Outcome State Fault Refusal :=
  match e with
  | .unlistedCommandByte _ => .next (voidMirror s)
  | .reservedControlByte _ => .refused .reservedControlByte

end Sys2Proof.Machine
end

