-- ==== Sys2Proof/Machine/Step.lean ====
section
/-! DEFINITION. One step of the machine, and the place of the instruction it fetches next. -/

namespace Sys2Proof.Machine

/-- One step: the agent that moves (`fetch`) either reads an instruction word, which is decoded and run, or makes a step of
its own. -/
def step (s : State) : Host.Outcome State Fault Refusal :=
  match fetch s with
  | .internal s' => .next s'
  | .word w s' =>
      match decode w with
      | .ok i => exec i s'
      | .error e => rejectWord e s'

/-- The state whose very next step runs the instruction numbered `w` (`tableWord`; log 2, log 14): a request is the host's next
one, DPF idle and the controller's inbox empty; a wire byte is the controller's next one, taken for what it is. -/
def State.withFetchWord (s : State) (nbits w : Nat) : State :=
  match tableWord nbits w with
  | .req r => { s with host := r :: s.host, seq := .idle, ctl := { s.ctl with inbox := [] } }
  | .cmd b => { s with ctl := { s.ctl with inbox := .frame [b] :: s.ctl.inbox, expect := .payload .command, param := none } }
  | .ctrl b => { s with ctl := { s.ctl with inbox := .frame [b] :: s.ctl.inbox, expect := .control } }

end Sys2Proof.Machine
end

