-- ==== Sys2Proof/Safety.lean ====
section
/-! DEFINITION. The terms claims use: the invariant of spec 10 R41 and what a run on an answering bus looks like. -/

namespace Sys2Proof.Machine

/-! ### The invariant -/

/-- The attempts of a write that ended stay inside RETRY_LIMIT (spec 10 R34, 40 R108): all of them for a Timeout, fewer before
an Ack. -/
def naksLegal (limit : Option Nat) (naks : Nat) : TxResult → Bool
  | .ack => match limit with
    | none => true
    | some m => decide (naks < m)
  | .timeout => decide (limit = some naks)

/-- A legal entry of the wire history (spec 10 R41, R34), addressed to the device its strap selects (R21: 0x3C or 0x3D). -/
def WireEntry.wf (c : Config) (e : WireEntry) : Bool :=
  decide (e.dev = if c.sa0 = 0#1 then 0x3C#7 else 0x3D#7) && decide (e.bytes.length % 2 = 0) && decide (2 ≤ e.bytes.length) &&
    decide (e.bytes.length ≤ 2 * c.maxBurst) && naksLegal c.retryLimit e.naks e.result

/-- The bytes of a transaction are pairs whose first byte is one of the four control bytes (spec 30 R80, R82). -/
def pairsLegal : List Byte → Bool
  | [] => true
  | [_] => false
  | c :: _ :: rest => decide (c &&& 0x3F#8 = 0#8) && pairsLegal rest

/-- A delivery that the controller has not started on. -/
def Delivery.wf : Delivery → Bool
  | .frame bs => decide (bs ≠ []) && pairsLegal bs
  | .lost _ _ _ => true

/-- The inbox continues as the receiver expects: a started transaction goes on with the byte it is at. -/
def inboxLegal (expect : Expect) : List Delivery → Bool
  | [] => decide (expect = .control)
  | .lost _ _ _ :: later => decide (expect = .control) && later.all Delivery.wf
  | .frame bs :: later =>
      (match expect, bs with
        | .control, bs => decide (bs ≠ []) && pairsLegal bs
        | .payload _, [] => false
        | .payload _, _ :: rest => pairsLegal rest) && later.all Delivery.wf

/-- Every listed display RAM cell is inside the geometry (spec 20 R50). -/
def cellsInRange (c : Config) (m : Memory) : Bool :=
  m.all (fun cell => decide (cell.1 / 256 < c.pageCount) && decide (cell.1 % 256 < c.segCount))

/-- While an operation runs its pending write is the encoded burst the sequencer is at (spec 10 R32, 40 R107), with attempts
left; an idle instance has no pending write. -/
def State.pendingLegal (s : State) : Prop :=
  match s.seq with
  | .idle => s.tx = none
  | .running k => ∃ it w, (plan s.cfg s.lat s.callerBuf)[k]? = some it ∧ s.tx = some w ∧
      it.payload ≠ [] ∧ it.payload.length ≤ s.cfg.maxBurst ∧
      w.bytes = encodeBurst s.cfg.policy it.tag it.payload ∧ naksLegal s.cfg.retryLimit w.naks .ack = true

/-- The invariant of spec 10 R41, with the forms of the model's own data. -/
structure State.Inv (s : State) : Prop where
  cfg_wf : s.cfg.wf = true
  addrMode_page : s.addrMode = .page
  synced_inRange : s.synced = true → cursorInRange s.cfg s.curPage s.curCol = true
  wire_wf : ∀ e ∈ s.wire, e.wf s.cfg = true
  pending : s.pendingLegal
  inbox : inboxLegal s.ctl.expect s.ctl.inbox = true
  gdd_wf : Memory.wf s.ctl.gdd = true
  gdd_inRange : cellsInRange s.cfg s.ctl.gdd = true
  void_unknown : s.ctl.meaning = false → s.ctl.gdd = [] ∧ s.ctl.param = none

/-! ### Runs on a bus that answers -/

/-- DPF can accept a request: idle, and, as in every state of the invariant that is idle, no write pending (spec 10 R32). -/
def State.ready (s : State) : Prop := s.seq = .idle ∧ s.tx = none

/-- The controller has consumed everything, stands between two pairs with no parameter awaited, and the mirror has a meaning
(spec 20 R58, R59). -/
def State.receiverReady (s : State) : Prop :=
  s.ctl.inbox = [] ∧ s.ctl.expect = .control ∧ s.ctl.param = none ∧ s.ctl.meaning = true

/-- `n` Naks before the Ack are allowed by RETRY_LIMIT (spec 40 R108). -/
def nakAllowed (limit : Option Nat) (n : Nat) : Prop := ∀ m, limit = some m → n < m

/-- The outcomes of writes that are all acknowledged, the write number `j` after `ns[j]` Naks, then `rest`. -/
def ackedAfter (ns : List Nat) (rest : List Attempt) : List Attempt :=
  ns.flatMap (fun n => List.replicate n .nak ++ [.ack]) ++ rest

/-- A burst as the rules of the operations name it: its tag and payload (spec 00 R9). -/
abbrev Burst := Tag × List Byte

/-- The wire entry of an acknowledged burst (spec 40 R107, R108). -/
def ackedEntry (c : Config) (b : Burst) (naks : Nat) : WireEntry :=
  { dev := c.devAddr, bytes := encodeBurst c.policy b.1 b.2, naks := naks, result := .ack }

/-- What DPF's side and the controller's inbox hold after the bursts `bs` were acknowledged after `ns` Naks each. -/
def State.sent (s : State) (bs : List Burst) (ns : List Nat) (rest : List Attempt) : State :=
  { s with wire := s.wire ++ List.zipWith (ackedEntry s.cfg) bs ns,
           ctl := { s.ctl with inbox := s.ctl.inbox ++ bs.map (fun b => .frame (encodeBurst s.cfg.policy b.1 b.2)) },
           answers := rest }

/-- What a burst that ran out of attempts leaves after the `n` attempts of RETRY_LIMIT (spec 40 R108, 60 R234). -/
def State.lostBurst (s : State) (b : Burst) (n : Nat) (rest : List Attempt) : State :=
  { s with wire := s.wire ++ [{ dev := s.cfg.devAddr, bytes := encodeBurst s.cfg.policy b.1 b.2, naks := n, result := .timeout }],
           ctl := { s.ctl with inbox := s.ctl.inbox ++ [.lost b.1 b.2 n] },
           answers := rest, synced := false }

/-- The bursts of CLEAR (spec 43 R160). -/
def clearBursts (c : Config) : List Burst :=
  (List.range c.pageCount).flatMap
    (fun p => [(.command, [0xB0#8 ||| BitVec.ofNat 8 p, 0x00#8, 0x10#8]), (.data, List.replicate c.segCount 0x00#8)])

/-- The bursts of WRITE on the pages `ps` that leave DPF: an empty Data burst sends nothing (spec 43 R162, R163, R166). -/
def writeBursts (buf : List Byte) (ps : List Nat) (startColumn columnSpan : Byte) : List Burst :=
  ps.flatMap (fun p =>
    (.command, [0xB0#8 ||| BitVec.ofNat 8 (p % 8), startColumn &&& 0x0F#8, 0x10#8 ||| (startColumn >>> 4)]) ::
      if columnSpan = 0#8 then []
      else [(.data, (List.range columnSpan.toNat).map (fun j => buf.getD (p * columnSpan.toNat + j) 0#8))])

/-- Where an acknowledged page of WRITE leaves `curCol` and `synced` (spec 41 R125, R127): the Seek's column, then the Data burst's
advance if the Seek was in range. -/
def writeCursor (c : Config) (page : Nat) (startColumn columnSpan : Byte) : Byte × Bool :=
  let inRange : Bool := decide (page % 8 < c.pageCount ∧ startColumn.toNat < c.segCount)
  let fits : Bool := decide (startColumn.toNat + columnSpan.toNat ≤ c.segCount - 1)
  (if inRange = false ∨ columnSpan = 0#8 then startColumn
   else if fits then BitVec.ofNat 8 (startColumn.toNat + columnSpan.toNat)
   else BitVec.ofNat 8 (c.segCount - 1),
   inRange && (decide (columnSpan = 0#8) || fits))

end Sys2Proof.Machine
end

