-- ==== Sys2Proof/Certificates/Slice0/Obligations.lean ====
section
/-! DEFINITION. The statements for the provers. -/

open Sys2Proof Sys2Proof.Machine

/-! ### Encodings -/

/-- Every instruction's word decodes to it, whatever its operands (spec 30 R82, R85, R89). -/
def Obligations.DecodeEncodeRoundTrip : Prop := ∀ i : Instr, decode (encode i) = .ok i

/-- A wire byte that decodes is the encoding of what it decodes to: no bit of it is dropped, no two bytes share an instruction
(spec 30 R82, R85). -/
def Obligations.DecodedWireByteIsItsEncoding : Prop :=
  (∀ (b : Byte) (i : Instr), decode (.cmd b) = .ok i → encode i = .cmd b) ∧
  (∀ (b : Byte) (i : Instr), decode (.ctrl b) = .ok i → encode i = .ctrl b)

/-- Some words written out from the tables of spec 30 (95 V100 to V103, V105, V106; the place of the line in 0x7F and the polarity
of 0xC8 are general knowledge G3 and G2, PRESUMED, log 10). -/
def Obligations.SampleWordsDecode : Prop :=
  decode (.cmd 0b10110101#8) = .ok (.pagestart 5#3) ∧
  decode (.cmd 0b00001100#8) = .ok (.collo 12#4) ∧
  decode (.cmd 0b00010111#8) = .ok (.colhi 7#4) ∧
  decode (.cmd 0b00101001#8) = .ok (.scrollsetupV 1#2) ∧
  decode (.cmd 0b01111111#8) = .ok (.startline 63#6) ∧
  decode (.cmd 0b11001000#8) = .ok .comscanRemap ∧
  decode (.cmd 0b10111000#8) = .error (.unlistedCommandByte 0xB8#8) ∧
  decode (.ctrl 0b11000000#8) = .ok .ctrlDataMore ∧
  decode (.ctrl 0b11000001#8) = .error (.reservedControlByte 0xC1#8) ∧
  decode (.req { sel := 0b0011#4, page := 2#8, column := 90#8 }) = .ok (.seek 2#8 90#8) ∧
  decode (.req { sel := 0b1101#4 }) = .ok (.reserved8F 5#3)

/-- The length law of Encode and the place of the payload bytes, under both policies and both tags (spec 40 R101). -/
def Obligations.EncodeLengthAndPayload : Prop :=
  ∀ (policy : Policy) (tag : Tag) (bytes : List Byte),
    (encodeBurst policy tag bytes).length = 2 * bytes.length ∧
    ∀ i, (encodeBurst policy tag bytes)[2 * i + 1]? = bytes[i]?

/-- The type bit law of Encode: bit 6 of every control byte is the tag, bits 5:0 are zero (spec 40 R102). -/
def Obligations.EncodeTypeBit : Prop :=
  ∀ (policy : Policy) (tag : Tag) (bytes : List Byte) (i : Nat), i < bytes.length →
    ∃ c, (encodeBurst policy tag bytes)[2 * i]? = some c ∧ c.getLsbD 6 = decide (tag = .data) ∧ c &&& 0x3F#8 = 0#8

/-- The continuation flag of pair `i` of `N` under each policy (spec 30 R83). -/
def Obligations.EncodeContinuation : Prop :=
  ∀ (tag : Tag) (bytes : List Byte) (i : Nat), i < bytes.length →
    (∃ c, (encodeBurst .noContinue tag bytes)[2 * i]? = some c ∧ c.getLsbD 7 = false) ∧
    (∃ c, (encodeBurst .lastTerminates tag bytes)[2 * i]? = some c ∧ c.getLsbD 7 = decide (i + 1 < bytes.length))

/-- A reader of the wire gets the tag and the payload back from a transaction (spec 30 R93). -/
def Obligations.TransactionReadsBack : Prop :=
  ∀ (policy : Policy) (tag : Tag) (bytes : List Byte), bytes ≠ [] →
    txnTag (encodeBurst policy tag bytes) = some tag ∧ txnPayload (encodeBurst policy tag bytes) = some bytes

/-! ### The codec and the Transport -/

/-- A burst of more than MAX_BURST payload bytes raises BufferTooLarge(N): nothing of it is sent, no state field changes at the
raise, the operation ends there with that response; a burst of at most MAX_BURST bytes, MAX_BURST itself included, never raises
it (spec 60 R232). For a `Seek` the strict check comes before (spec 60 R237, the spec's own decision D19). That the earlier bursts of
the operation are on the wire (R165, D18) is TooLargeDataBurstAfterOneSeek's. -/
def Obligations.BurstSizeLimit : Prop :=
  ∀ (it : Item) (s : State),
    (∀ page column, it = .seek page column → strictRejects s.cfg page column = false) →
    (s.cfg.maxBurst < it.payload.length →
      startItem it s = .raised .bufferTooLarge (.count it.payload.length) s ∧
      ∀ rest, runItems (it :: rest) s =
        { s with rsp := { code := .bufferTooLarge, info := .count it.payload.length }, seq := .idle }) ∧
    (it.payload.length ≤ s.cfg.maxBurst → ∀ n t, startItem it s ≠ .raised .bufferTooLarge (.count n) t)

/-- An empty burst performs no Transport write, changes no state and goes on as a success (spec 40 R106;
the spec's own decision D10). -/
def Obligations.EmptyBurstSendsNothing : Prop :=
  ∀ (it : Item) (s : State), it.payload = [] → startItem it s = .done s

/-- The loop of TxWrite: the Naks before the Ack are counted, RETRY_LIMIT Naks are a Timeout, and with an infinite RETRY_LIMIT
any number of Naks is none (spec 40 R108; bounded and unbounded retry are the spec's own decision D7). -/
def Obligations.TransportRetryLoop : Prop :=
  (∀ limit k n rest, (∀ m, limit = some m → k + n < m) →
    attempts limit k (List.replicate n .nak ++ .ack :: rest) = .acked (k + n) rest) ∧
  (∀ m k rest, k < m → attempts (some m) k (List.replicate (m - k) .nak ++ rest) = .timedOut m rest) ∧
  (∀ k n, attempts none k (List.replicate n .nak) = .waiting (k + n))

/-- With RETRY_LIMIT infinite, a step in which every attempt of the pending write is a Nak changes nothing but the count of Naks:
the operation does not end, nothing enters `wire`, no response is written (spec 60 R241). -/
def Obligations.EndlessNakNeverEnds : Prop :=
  ∀ (s : State) (k n : Nat) (w : PendingWrite), s.Inv → s.ctl.inbox = [] → s.seq = .running k → s.tx = some w →
    s.cfg.retryLimit = none → s.answers = List.replicate (n + 1) .nak →
    step s = .next { s with tx := some { w with naks := w.naks + (n + 1) }, answers := [] }

/-- With RETRY_LIMIT finite, a pending write whose attempts run out ends the operation with TransportTimeout: `synced` is
cleared, INIT fails for good, the cursor registers keep their values, the write is the last entry of `wire` (spec 60 R234;
the spec's own decisions D7, D14, D15; the news for the controller, with the tag and the payload of the burst the operation stands
at, is the model's, log 7). -/
def Obligations.BoundedRetryTimesOut : Prop :=
  ∀ (s : State) (k m : Nat) (w : PendingWrite) (it : Item) (rest : List Attempt), s.Inv → s.ctl.inbox = [] → s.seq = .running k →
    s.tx = some w → s.cfg.retryLimit = some m → s.answers = List.replicate (m - w.naks) .nak ++ rest →
    (plan s.cfg s.lat s.callerBuf)[k]? = some it →
    step s = .next
      { s with tx := none, answers := rest, seq := .idle, rsp := { code := .transportTimeout, info := .none },
               synced := false, initState := if s.lat.op = .init then .failed else s.initState,
               wire := s.wire ++ [{ dev := s.cfg.devAddr, bytes := w.bytes, naks := m, result := .timeout }],
               ctl := { s.ctl with inbox := [.lost it.tag it.payload m] } }

/-- A request whose first write is not acknowledged yet: the operation stands at its first burst with the encoded burst pending and
the Naks so far counted; nothing is in `wire`, no response is written (spec 10 R32, 40 R107, R108; standing at the burst between
two steps is the model's form, log 1 and log 20). -/
def Obligations.RequestWaitsForItsFirstWrite : Prop :=
  ∀ (s : State) (n : Nat), s.ready → s.cfg.wf = true → nakAllowed s.cfg.retryLimit n → s.answers = List.replicate n .nak →
    let waits (l : Latches) (buf : List Byte) (b : Burst) : Host.Outcome State Fault Refusal :=
      .next { s with lat := l, callerBuf := buf, seq := .running 0, answers := [],
                     tx := some { bytes := encodeBurst s.cfg.policy b.1 b.2, naks := n } }
    (∀ buf, buf ≠ [] → buf.length ≤ s.cfg.maxBurst →
      exec (.frameC buf) s =
        waits { s.lat with op := .frameC, tag := .command, bufLen := buf.length } buf (.command, buf)) ∧
    (∀ buf, buf ≠ [] → buf.length ≤ s.cfg.maxBurst →
      exec (.frameD buf) s = waits { s.lat with op := .frameD, tag := .data, bufLen := buf.length } buf (.data, buf)) ∧
    (∀ page column : Byte, 3 ≤ s.cfg.maxBurst →
      (s.cfg.strict = true → page.toNat < s.cfg.pageCount ∧ column.toNat < s.cfg.segCount) →
      exec (.seek page column) s =
        waits { s.lat with op := .seek, page := page, column := column } s.callerBuf
          (.command, [0xB0#8 ||| (page &&& 0x07#8), column &&& 0x0F#8, 0x10#8 ||| (column >>> 4)])) ∧
    (2 ≤ s.cfg.maxBurst →
      exec .init s = waits { s.lat with op := .init } s.callerBuf (.command, [0xA8#8, 0x3F#8])) ∧
    (3 ≤ s.cfg.maxBurst →
      exec .clear s = waits { s.lat with op := .clear } s.callerBuf (.command, [0xB0#8, 0x00#8, 0x10#8])) ∧
    (∀ (buf : List Byte) (startPage pageSpan startColumn columnSpan : Byte), 3 ≤ s.cfg.maxBurst → 1 ≤ pageSpan.toNat →
      (startPage.toNat + pageSpan.toNat) * columnSpan.toNat ≤ buf.length →
      (s.cfg.strict = true → startPage.toNat < s.cfg.pageCount ∧ startColumn.toNat < s.cfg.segCount) →
      exec (.write buf startPage pageSpan startColumn columnSpan) s =
        waits { s.lat with op := .write, startPage := startPage, pageSpan := pageSpan, startColumn := startColumn,
                           columnSpan := columnSpan, bufLen := buf.length } buf
          (.command, [0xB0#8 ||| (startPage &&& 0x07#8), startColumn &&& 0x0F#8, 0x10#8 ||| (startColumn >>> 4)]))

/-- Attempt outcomes taken one portion after the other or all together give the same run (spec 40 R108: the outcomes are the
environment's; the two forms are the model's, log 1 and log 20). -/
def Obligations.OutcomesTogetherOrInPortions : Prop :=
  ∀ (i : Instr) (s t : State) (k : Nat) (a b : List Attempt),
    exec i { s with answers := a } = .next t → s.seq = .idle → t.seq = .running k →
    exec i { s with answers := a ++ b } = .next (resume { t with answers := b })

/-! ### The host requests -/

/-- GETADDR answers the address of its operand, sends nothing and changes nothing but `rsp` (and the latches it is held in)
(spec 41 R129; that the latches are loaded for GETADDR too is the model's reading, log 15). -/
def Obligations.GetaddrAnswersAddress : Prop :=
  ∀ (sa0 : BitVec 1) (s : State), s.seq = .idle →
    exec (.getaddr sa0) s = .next
      { s with lat := { s.lat with op := .getaddr, sa0 := sa0 },
               rsp := { code := .ok, info := .device (if sa0 = 0#1 then 0x3C#7 else 0x3D#7) } }

/-- FRAME.C: too long, empty, acknowledged, out of attempts (spec 40 R109; the spec's own decisions D2, D9, D10, D14; the
news of the lost burst for the controller is the model's, log 7). -/
def Obligations.FrameCBehaviour : Prop :=
  ∀ (buf : List Byte) (s : State), s.ready →
    let l : Latches := { s.lat with op := .frameC, tag := .command, bufLen := buf.length }
    (s.cfg.maxBurst < buf.length →
      exec (.frameC buf) s = .next
        { s with lat := l, callerBuf := buf, rsp := { code := .bufferTooLarge, info := .count buf.length } }) ∧
    (buf = [] → exec (.frameC buf) s = .next { s with lat := l, callerBuf := buf, rsp := { code := .ok, info := .none } }) ∧
    (buf ≠ [] → buf.length ≤ s.cfg.maxBurst → ∀ n rest, nakAllowed s.cfg.retryLimit n → s.answers = ackedAfter [n] rest →
      exec (.frameC buf) s = .next
        { s.sent [(.command, buf)] [n] rest with
            lat := l, callerBuf := buf, synced := false, rsp := { code := .ok, info := .none } }) ∧
    (buf ≠ [] → buf.length ≤ s.cfg.maxBurst → ∀ n rest, 1 ≤ n → s.cfg.retryLimit = some n →
      s.answers = List.replicate n .nak ++ rest →
      exec (.frameC buf) s = .next
        { s.lostBurst (.command, buf) n rest with
            lat := l, callerBuf := buf, rsp := { code := .transportTimeout, info := .none } })

/-- FRAME.D: too long, empty, acknowledged (with AdvanceCursor), out of attempts (spec 40 R110, 41 R127; the spec's own
decisions D2, D9, D10, D14, D27; the news of the lost burst for the controller is the model's, log 7). -/
def Obligations.FrameDBehaviour : Prop :=
  ∀ (buf : List Byte) (s : State), s.ready →
    let l : Latches := { s.lat with op := .frameD, tag := .data, bufLen := buf.length }
    (s.cfg.maxBurst < buf.length →
      exec (.frameD buf) s = .next
        { s with lat := l, callerBuf := buf, rsp := { code := .bufferTooLarge, info := .count buf.length } }) ∧
    (buf = [] → exec (.frameD buf) s = .next { s with lat := l, callerBuf := buf, rsp := { code := .ok, info := .none } }) ∧
    (buf ≠ [] → buf.length ≤ s.cfg.maxBurst → ∀ n rest, nakAllowed s.cfg.retryLimit n → s.answers = ackedAfter [n] rest →
      exec (.frameD buf) s = .next
        { s.sent [(.data, buf)] [n] rest with
            lat := l, callerBuf := buf, rsp := { code := .ok, info := .none },
            curCol := if s.synced then
                (if s.curCol.toNat + buf.length ≤ s.cfg.segCount - 1 then BitVec.ofNat 8 (s.curCol.toNat + buf.length)
                 else BitVec.ofNat 8 (s.cfg.segCount - 1))
              else s.curCol,
            synced := s.synced && decide (s.curCol.toNat + buf.length ≤ s.cfg.segCount - 1) }) ∧
    (buf ≠ [] → buf.length ≤ s.cfg.maxBurst → ∀ n rest, 1 ≤ n → s.cfg.retryLimit = some n →
      s.answers = List.replicate n .nak ++ rest →
      exec (.frameD buf) s = .next
        { s.lostBurst (.data, buf) n rest with
            lat := l, callerBuf := buf, rsp := { code := .transportTimeout, info := .none } })

/-- SEEK: rejected in strict mode, too long for the Transport, acknowledged (the three command bytes in one burst, the cursor at
the masked operands, `synced` iff they are in range), out of attempts (spec 41 R120, R121, R122, R125; the spec's own
decisions D8, D11, D14; the news of the lost burst for the controller is the model's, log 7). -/
def Obligations.SeekBehaviour : Prop :=
  ∀ (page column : Byte) (s : State), s.ready →
    let l : Latches := { s.lat with op := .seek, page := page, column := column }
    let bytes : List Byte := [0xB0#8 ||| (page &&& 0x07#8), column &&& 0x0F#8, 0x10#8 ||| (column >>> 4)]
    let rejected : Prop := s.cfg.strict = true ∧ (s.cfg.pageCount ≤ page.toNat ∨ s.cfg.segCount ≤ column.toNat)
    (rejected →
      exec (.seek page column) s = .next
        { s with lat := l, rsp := { code := .addressOutOfRange, info := .address page.toNat column.toNat } }) ∧
    (¬ rejected → s.cfg.maxBurst < 3 →
      exec (.seek page column) s = .next { s with lat := l, rsp := { code := .bufferTooLarge, info := .count 3 } }) ∧
    (¬ rejected → 3 ≤ s.cfg.maxBurst → ∀ n rest, nakAllowed s.cfg.retryLimit n → s.answers = ackedAfter [n] rest →
      exec (.seek page column) s = .next
        { s.sent [(.command, bytes)] [n] rest with
            lat := l, curPage := page.setWidth 3, curCol := column,
            synced := decide (page.toNat % 8 < s.cfg.pageCount ∧ column.toNat < s.cfg.segCount),
            rsp := { code := .ok, info := .none } }) ∧
    (¬ rejected → 3 ≤ s.cfg.maxBurst → ∀ n rest, 1 ≤ n → s.cfg.retryLimit = some n →
      s.answers = List.replicate n .nak ++ rest →
      exec (.seek page column) s = .next
        { s.lostBurst (.command, bytes) n rest with lat := l, rsp := { code := .transportTimeout, info := .none } })

/-- What an acknowledged SEEK puts on the wire, over all transactions it sends: exactly the three bytes in their order, every one of
them Command-tagged, the page masked to three bits, the column as two nibbles, whatever the cursor was (spec 41 R121). -/
def Obligations.SeekEmitsItsThreeBytes : Prop :=
  ∀ (page column : Byte) (s : State) (n : Nat) (rest : List Attempt), s.ready → 3 ≤ s.cfg.maxBurst →
    (s.cfg.strict = true → page.toNat < s.cfg.pageCount ∧ column.toNat < s.cfg.segCount) →
    nakAllowed s.cfg.retryLimit n → s.answers = ackedAfter [n] rest →
    ∃ t es, exec (.seek page column) s = .next t ∧ t.wire = s.wire ++ es ∧
      (∀ e ∈ es, txnTag e.bytes = some .command) ∧
      es.flatMap (fun e => (txnPayload e.bytes).getD []) =
        [0xB0#8 ||| (page &&& 0x07#8), 0x00#8 ||| (column &&& 0x0F#8), 0x10#8 ||| ((column >>> 4) &&& 0x0F#8)] ∧
      (page.toNat ≤ 7 → column.toNat ≤ 127 →
        es.flatMap (fun e => (txnPayload e.bytes).getD []) = [0xB0#8 ||| page, column &&& 0x0F#8, 0x10#8 ||| (column >>> 4)])

/-- The table of spec 42 R142, and INIT on a bus that answers: its twelve bursts in step order, one per step, the flag Done
unless it is Failed, the cursor and `synced` as they were; with MAX_BURST below 2 nothing is sent (spec 42 R140, R143; the spec's own
decisions D12, D13, D15; the bytes marked general knowledge are PRESUMED, log 10). -/
def Obligations.InitBehaviour : Prop :=
  ∀ (s : State), s.ready →
    let l : Latches := { s.lat with op := .init }
    (s.cfg.maxBurst < 2 →
      exec .init s = .next { s with lat := l, rsp := { code := .bufferTooLarge, info := .count 2 } }) ∧
    (2 ≤ s.cfg.maxBurst → ∀ ns rest, ns.length = 12 → (∀ n ∈ ns, nakAllowed s.cfg.retryLimit n) →
      s.answers = ackedAfter ns rest →
      exec .init s = .next
        { s.sent [(.command, [0xA8#8, 0x3F#8]), (.command, [0xD3#8, 0x00#8]), (.command, [0x40#8]), (.command, [0xA1#8]),
                  (.command, [0xC8#8]), (.command, [0xDA#8, s.cfg.initComPins]), (.command, [0x81#8, 0x7F#8]),
                  (.command, [0xA4#8]), (.command, [0xA6#8]), (.command, [0xD5#8, s.cfg.initClock]),
                  (.command, [0x8D#8, s.cfg.initChargePump]), (.command, [0xAF#8])] ns rest with
            lat := l, initState := if s.initState = .failed then .failed else .done,
            rsp := { code := .ok, info := .none } })

/-- INIT whose step `k` (from 0) runs out of attempts: the steps before it are sent, the failing write is the last one, no later
step is sent, the flag is Failed, the response TransportTimeout (spec 42 R145; the spec's own decisions D12, D15;
the news of the lost burst for the controller is the model's, log 7). -/
def Obligations.InitFailureIsFatal : Prop :=
  ∀ (s : State) (k m : Nat) (bytes : List Byte) (ns : List Nat) (rest : List Attempt), s.ready → 2 ≤ s.cfg.maxBurst →
    (initStream s.cfg)[k]? = some bytes → ns.length = k → (∀ n ∈ ns, n < m) → 1 ≤ m → s.cfg.retryLimit = some m →
    s.answers = ackedAfter ns (List.replicate m .nak ++ rest) →
    exec .init s = .next
      { (s.sent (((initStream s.cfg).take k).map (fun bs => (.command, bs))) ns []).lostBurst (.command, bytes) m rest with
          lat := { s.lat with op := .init }, initState := .failed,
          rsp := { code := .transportTimeout, info := .none } }

/-- INIT reads INIT_STREAM and POLICY and nothing else for what it sends: two INITs that answer Ok put the same 36 bytes on the
wire, the payload of the twelve steps in their order, none skipped, whatever the states they start from and whatever happened in
between (spec 42 R144). How the steps are grouped into transactions is InitBehaviour's. -/
def Obligations.InitReplaysTheSameBytes : Prop :=
  ∀ (s s' t t' : State), s.cfg.policy = s'.cfg.policy → initStream s.cfg = initStream s'.cfg →
    exec .init s = .next t → exec .init s' = .next t' →
    t.seq = .idle → t'.seq = .idle → t.rsp.code = .ok → t'.rsp.code = .ok →
    let sent := t.wire.drop s.wire.length
    let sent' := t'.wire.drop s'.wire.length
    sent.flatMap (fun e => e.bytes) = sent'.flatMap (fun e => e.bytes) ∧ (sent.flatMap (fun e => e.bytes)).length = 36 ∧
    sent.flatMap (fun e => (txnPayload e.bytes).getD []) = (initStream s.cfg).flatten

/-- CLEAR. MAX_BURST below 3: BufferTooLarge(3) at the first `Seek`, nothing sent. On a bus that answers: a `Seek(p, 0)` and a Data
burst of SEG_COUNT zeros for every page in ascending order, the cursor at the last page and column, not synchronised. Burst `k` out
of attempts: the bursts before it are sent, it is the last entry of `wire`, no later one is sent, the cursor registers are as the
last acknowledged burst left them (spec 43 R160, R161, 60 R232, R234, R238; the spec's own decisions D7, D11, D14; the news of the
lost burst for the controller is the model's, log 7). -/
def Obligations.ClearBehaviour : Prop :=
  ∀ (s : State), s.ready → s.cfg.wf = true →
    let l : Latches := { s.lat with op := .clear }
    (s.cfg.maxBurst < 3 →
      exec .clear s = .next { s with lat := l, rsp := { code := .bufferTooLarge, info := .count 3 } }) ∧
    (3 ≤ s.cfg.maxBurst → s.cfg.segCount ≤ s.cfg.maxBurst → ∀ ns rest, ns.length = 2 * s.cfg.pageCount →
      (∀ n ∈ ns, nakAllowed s.cfg.retryLimit n) → s.answers = ackedAfter ns rest →
      exec .clear s = .next
        { s.sent (clearBursts s.cfg) ns rest with
            lat := l, curPage := BitVec.ofNat 3 (s.cfg.pageCount - 1), curCol := BitVec.ofNat 8 (s.cfg.segCount - 1),
            synced := false, rsp := { code := .ok, info := .none } }) ∧
    (3 ≤ s.cfg.maxBurst → s.cfg.segCount ≤ s.cfg.maxBurst → ∀ k m b ns rest, (clearBursts s.cfg)[k]? = some b →
      ns.length = k → (∀ n ∈ ns, n < m) → 1 ≤ m → s.cfg.retryLimit = some m →
      s.answers = ackedAfter ns (List.replicate m .nak ++ rest) →
      exec .clear s = .next
        { (s.sent ((clearBursts s.cfg).take k) ns []).lostBurst b m rest with
            lat := l, rsp := { code := .transportTimeout, info := .none },
            curPage := if k = 0 then s.curPage else BitVec.ofNat 3 ((k - 1) / 2),
            curCol := if k = 0 then s.curCol else if k % 2 = 1 then 0#8 else BitVec.ofNat 8 (s.cfg.segCount - 1) })

/-- CLEAR and WRITE with a Data burst above MAX_BURST: the first `Seek` is on the wire, the cursor where it put it, nothing else
is sent (spec 43 R165; the spec's own decision D18). Their other errors are ClearBehaviour's and WriteBehaviour's. -/
def Obligations.TooLargeDataBurstAfterOneSeek : Prop :=
  (∀ (s : State) (n : Nat) (rest : List Attempt), s.ready → s.cfg.wf = true → 3 ≤ s.cfg.maxBurst →
    s.cfg.maxBurst < s.cfg.segCount → nakAllowed s.cfg.retryLimit n → s.answers = ackedAfter [n] rest →
    exec .clear s = .next
      { s.sent [(.command, [0xB0#8, 0x00#8, 0x10#8])] [n] rest with
          lat := { s.lat with op := .clear }, curPage := 0#3, curCol := 0#8, synced := true,
          rsp := { code := .bufferTooLarge, info := .count s.cfg.segCount } }) ∧
  (∀ (buf : List Byte) (startPage pageSpan startColumn columnSpan : Byte) (s : State) (n : Nat) (rest : List Attempt),
    s.ready → 3 ≤ s.cfg.maxBurst → s.cfg.maxBurst < columnSpan.toNat → 1 ≤ pageSpan.toNat →
    (startPage.toNat + pageSpan.toNat) * columnSpan.toNat ≤ buf.length →
    (s.cfg.strict = true → startPage.toNat < s.cfg.pageCount ∧ startColumn.toNat < s.cfg.segCount) →
    nakAllowed s.cfg.retryLimit n → s.answers = ackedAfter [n] rest →
    exec (.write buf startPage pageSpan startColumn columnSpan) s = .next
      { s.sent (writeBursts buf [startPage.toNat] startColumn 0#8) [n] rest with
          lat := { s.lat with op := .write, startPage := startPage, pageSpan := pageSpan, startColumn := startColumn,
                              columnSpan := columnSpan, bufLen := buf.length },
          callerBuf := buf, curPage := BitVec.ofNat 3 startPage.toNat, curCol := startColumn,
          synced := decide (startPage.toNat % 8 < s.cfg.pageCount ∧ startColumn.toNat < s.cfg.segCount),
          rsp := { code := .bufferTooLarge, info := .count columnSpan.toNat } })

/-- WRITE, no page rejected by strict mode. MAX_BURST below 3: BufferTooLarge(3) at the first `Seek`, nothing sent. On a bus that
answers: for every page of the span in ascending order a `Seek(p, startColumn)` and the Data burst of `buf[p * columnSpan ..]`, pages
of 8 and above sent masked, empty bursts not sent, the cursor as the last page leaves it. Burst `k` out of attempts: the bursts before
it are sent, it is the last entry of `wire`, no later one is sent, the cursor registers are as the last acknowledged burst left them
(spec 43 R162, R163, R166, R167, R168; 41 R127; 60 R232, R234, R238; the spec's own decisions D7, D10, D11, D14, D20; the news of the
lost burst for the controller is the model's, log 7). -/
def Obligations.WriteBehaviour : Prop :=
  ∀ (buf : List Byte) (startPage pageSpan startColumn columnSpan : Byte) (s : State), s.ready →
    (Instr.write buf startPage pageSpan startColumn columnSpan).wf = true →
    let l : Latches := { s.lat with op := .write, startPage := startPage, pageSpan := pageSpan, startColumn := startColumn,
                                    columnSpan := columnSpan, bufLen := buf.length }
    let bursts : List Burst := writeBursts buf (List.range' startPage.toNat pageSpan.toNat) startColumn columnSpan
    let accepted (pages : Nat) : Prop := s.cfg.strict = true → pages = 0 ∨
      (startPage.toNat + pages ≤ s.cfg.pageCount ∧ startColumn.toNat < s.cfg.segCount)
    (s.cfg.maxBurst < 3 → 1 ≤ pageSpan.toNat → accepted 1 →
      exec (.write buf startPage pageSpan startColumn columnSpan) s = .next
        { s with lat := l, callerBuf := buf, rsp := { code := .bufferTooLarge, info := .count 3 } }) ∧
    (3 ≤ s.cfg.maxBurst → columnSpan.toNat ≤ s.cfg.maxBurst → accepted pageSpan.toNat → ∀ ns rest, ns.length = bursts.length →
      (∀ n ∈ ns, nakAllowed s.cfg.retryLimit n) → s.answers = ackedAfter ns rest →
      let last : Nat := startPage.toNat + pageSpan.toNat - 1
      exec (.write buf startPage pageSpan startColumn columnSpan) s = .next
        { s.sent bursts ns rest with
            lat := l, callerBuf := buf, rsp := { code := .ok, info := .none },
            curPage := if pageSpan = 0#8 then s.curPage else BitVec.ofNat 3 last,
            curCol := if pageSpan = 0#8 then s.curCol else (writeCursor s.cfg last startColumn columnSpan).1,
            synced := if pageSpan = 0#8 then s.synced else (writeCursor s.cfg last startColumn columnSpan).2 }) ∧
    (3 ≤ s.cfg.maxBurst → columnSpan.toNat ≤ s.cfg.maxBurst → ∀ k m b ns rest,
      let perPage : Nat := if columnSpan = 0#8 then 1 else 2
      bursts[k]? = some b → accepted (k / perPage + 1) → ns.length = k → (∀ n ∈ ns, n < m) → 1 ≤ m →
      s.cfg.retryLimit = some m → s.answers = ackedAfter ns (List.replicate m .nak ++ rest) →
      let last : Nat := startPage.toNat + (k - 1) / perPage
      exec (.write buf startPage pageSpan startColumn columnSpan) s = .next
        { (s.sent (bursts.take k) ns []).lostBurst b m rest with
            lat := l, callerBuf := buf, rsp := { code := .transportTimeout, info := .none },
            curPage := if k = 0 then s.curPage else BitVec.ofNat 3 last,
            curCol := if k = 0 then s.curCol else if k % 2 = 1 then startColumn
              else (writeCursor s.cfg last startColumn columnSpan).1 })

/-- WRITE in strict mode past the last page: the pages inside the geometry are written, the first one outside ends the
operation with AddressOutOfRange before anything of it is sent, the cursor as the last accepted page left it; an out-of-range start
column does so at once (spec 43 R167, 60 R238; the spec's own decisions D8, D14). -/
def Obligations.StrictWriteStopsAtTheGeometry : Prop :=
  ∀ (buf : List Byte) (startPage pageSpan startColumn columnSpan : Byte) (s : State) (ns : List Nat) (rest : List Attempt),
    s.ready → s.cfg.strict = true → 3 ≤ s.cfg.maxBurst → columnSpan.toNat ≤ s.cfg.maxBurst → 1 ≤ pageSpan.toNat →
    (startPage.toNat + pageSpan.toNat) * columnSpan.toNat ≤ buf.length →
    let l : Latches := { s.lat with op := .write, startPage := startPage, pageSpan := pageSpan, startColumn := startColumn,
                                    columnSpan := columnSpan, bufLen := buf.length }
    let before : List Nat := List.range' startPage.toNat (s.cfg.pageCount - startPage.toNat)
    let last : Nat := s.cfg.pageCount - 1
    (s.cfg.segCount ≤ startColumn.toNat →
      exec (.write buf startPage pageSpan startColumn columnSpan) s = .next
        { s with lat := l, callerBuf := buf,
                 rsp := { code := .addressOutOfRange, info := .address startPage.toNat startColumn.toNat } }) ∧
    (startColumn.toNat < s.cfg.segCount → s.cfg.pageCount < startPage.toNat + pageSpan.toNat →
      ns.length = (writeBursts buf before startColumn columnSpan).length →
      (∀ n ∈ ns, nakAllowed s.cfg.retryLimit n) → s.answers = ackedAfter ns rest →
      exec (.write buf startPage pageSpan startColumn columnSpan) s = .next
        { s.sent (writeBursts buf before startColumn columnSpan) ns rest with
            lat := l, callerBuf := buf,
            curPage := if before = [] then s.curPage else BitVec.ofNat 3 last,
            curCol := if before = [] then s.curCol else (writeCursor s.cfg last startColumn columnSpan).1,
            synced := if before = [] then s.synced else (writeCursor s.cfg last startColumn columnSpan).2,
            rsp := { code := .addressOutOfRange,
                     info := .address (max startPage.toNat s.cfg.pageCount) startColumn.toNat } })

/-- A WRITE whose buffer is shorter than the offsets its loop reads is refused as a whole (spec 20 R52, 93 U11; log 11). -/
def Obligations.ShortBufferRefused : Prop :=
  ∀ (buf : List Byte) (startPage pageSpan startColumn columnSpan : Byte) (s : State), s.seq = .idle →
    1 ≤ pageSpan.toNat → 1 ≤ columnSpan.toNat → buf.length < (startPage.toNat + pageSpan.toNat) * columnSpan.toNat →
    exec (.write buf startPage pageSpan startColumn columnSpan) s = .refused .bufferTooShort

/-- The reserved selectors are answered with IllegalRequest, with no other effect (spec 60 R235; the spec's own decision D2). -/
def Obligations.ReservedSelectorsAnswered : Prop :=
  ∀ (s : State), s.seq = .idle →
    exec .reserved7 s = .next { s with rsp := { code := .illegalRequest, info := .selector 7#4 } } ∧
    ∀ low : BitVec 3, exec (.reserved8F low) s =
      .next { s with rsp := { code := .illegalRequest, info := .selector (BitVec.ofNat 4 (8 + low.toNat)) } }

/-- A request offered while an operation runs gets no step (spec 20 R66, 93 U2). -/
def Obligations.RequestWhileRunningRefused : Prop :=
  ∀ (s : State) (r : Request) (k : Nat) (i : Instr), s.seq = .running k → decode (.req r) = .ok i →
    exec i s = .refused .requestWhileRunning

/-! ### The controller -/

/-- The four control bytes: the type of the next payload byte, and the continuation flag (spec 30 R81, R82). -/
def Obligations.ControlBytesSetTheReceiver : Prop :=
  ∀ (s : State),
    exec .ctrlCmdLast s = .next { s with ctl := { s.ctl with expect := .payload .command, cont := false } } ∧
    exec .ctrlDataLast s = .next { s with ctl := { s.ctl with expect := .payload .data, cont := false } } ∧
    exec .ctrlCmdMore s = .next { s with ctl := { s.ctl with expect := .payload .command, cont := true } } ∧
    exec .ctrlDataMore s = .next { s with ctl := { s.ctl with expect := .payload .data, cont := true } }

/-- The cursor commands: a nibble of the column or the page register, and nothing else (spec 20 R59; 44 R180, R181, R203;
the mirror is the spec's own decision D21, log 6). -/
def Obligations.CursorCommandsMoveTheMirror : Prop :=
  ∀ (s : State), s.ctl.meaning = true →
    (∀ n, exec (.collo n) s =
      .next { s with ctl := { s.ctl with col := BitVec.ofNat 8 (s.ctl.col.toNat / 16 * 16 + n.toNat) } }) ∧
    (∀ n, exec (.colhi n) s =
      .next { s with ctl := { s.ctl with col := BitVec.ofNat 8 (n.toNat * 16 + s.ctl.col.toNat % 16) } }) ∧
    (∀ p, exec (.pagestart p) s = .next { s with ctl := { s.ctl with page := p } })

/-- The listed single-byte commands leave the mirror's cursor and RAM unchanged (spec 20 R59); the setting each one names is the
model's record of it (log 9). -/
def Obligations.SettingCommandsLeaveTheMirror : Prop :=
  ∀ (s : State), s.ctl.meaning = true →
    let setTo (t : Settings) : Host.Outcome State Fault Refusal := .next { s with ctl := { s.ctl with settings := t } }
    (∀ l, exec (.startline l) s = setTo { s.ctl.settings with startLine := l }) ∧
    exec .segremap0 s = setTo { s.ctl.settings with segRemap := 0#1 } ∧
    exec .segremap1 s = setTo { s.ctl.settings with segRemap := 1#1 } ∧
    exec .entiredispResume s = setTo { s.ctl.settings with entireOn := 0#1 } ∧
    exec .entiredispOn s = setTo { s.ctl.settings with entireOn := 1#1 } ∧
    exec .normal s = setTo { s.ctl.settings with inverse := 0#1 } ∧
    exec .inverse s = setTo { s.ctl.settings with inverse := 1#1 } ∧
    exec .displayoff s = setTo { s.ctl.settings with displayOn := 0#1 } ∧
    exec .displayon s = setTo { s.ctl.settings with displayOn := 1#1 } ∧
    exec .comscanNormal s = setTo { s.ctl.settings with comRemap := 0#1 } ∧
    exec .comscanRemap s = setTo { s.ctl.settings with comRemap := 1#1 } ∧
    exec .nop s = .next s

/-- The six commands with a parameter: the next Command payload byte is theirs, and nothing else changes (spec 20 R59;
D21 (d), log 6). -/
def Obligations.ParameterCommandsAwaitTheirByte : Prop :=
  ∀ (s : State), s.ctl.meaning = true →
    exec .contrast s = .next { s with ctl := { s.ctl with param := some .contrast } } ∧
    exec .chargepump s = .next { s with ctl := { s.ctl with param := some .chargePump } } ∧
    exec .muxratio s = .next { s with ctl := { s.ctl with param := some .muxRatio } } ∧
    exec .dispoffset s = .next { s with ctl := { s.ctl with param := some .dispOffset } } ∧
    exec .clockdiv s = .next { s with ctl := { s.ctl with param := some .clockDiv } } ∧
    exec .compins s = .next { s with ctl := { s.ctl with param := some .comPins } }

/-- A parameter byte is skipped whatever its value: cursor and RAM stay, no opcode is read from it (spec 20 R59); the setting it
is recorded in is the model's (log 9). -/
def Obligations.ParameterByteSkipped : Prop :=
  ∀ (s : State) (p : Param) (b : Byte) (rest : List Byte) (later : List Delivery),
    s.ctl.inbox = .frame (b :: rest) :: later → s.ctl.expect = .payload .command → s.ctl.param = some p →
    s.ctl.meaning = true →
    let t : Settings := s.ctl.settings
    step s = .next
      { s with ctl := { s.ctl with
          inbox := if rest = [] then later else .frame rest :: later, expect := .control, param := none,
          settings := { t with contrast := if p = .contrast then b else t.contrast,
                               chargePump := if p = .chargePump then b else t.chargePump,
                               muxRatio := if p = .muxRatio then b else t.muxRatio,
                               dispOffset := if p = .dispOffset then b else t.dispOffset,
                               clockDiv := if p = .clockDiv then b else t.clockDiv,
                               comPins := if p = .comPins then b else t.comPins } } }

/-- The commands whose parameter count is not given leave the mirror without a meaning: whatever its three parts become, no RAM
cell keeps a known value, and nothing outside the controller changes (spec 20 R59; 44 R182 to R189, R195, R208, R210). -/
def Obligations.UncountedCommandsVoidTheMirror : Prop :=
  ∀ (s : State) (i : Instr),
    (i = .addrmode ∨ i = .colrange ∨ i = .pagerange ∨ i = .scrollsetup26 ∨ i = .scrollsetup27 ∨
      (∃ v, i = .scrollsetupV v) ∨ i = .scrolloff ∨ i = .scrollon ∨ i = .vscrollarea ∨ i = .precharge ∨ i = .vcomh) →
    ∃ page col settings, exec i s = .next
      { s with ctl := { s.ctl with param := none, meaning := false, page := page, col := col, gdd := [],
                                   settings := settings },
               draws := s.draws + 1 }

/-- A command byte the document does not list, as the controller's next byte: the mirror has no meaning from there on, the byte
is consumed, DPF is unaffected (spec 44 R212, 20 R59). -/
def Obligations.UnlistedCommandVoidsTheMirror : Prop :=
  ∀ (s : State) (b : Byte) (rest : List Byte) (later : List Delivery),
    s.ctl.inbox = .frame (b :: rest) :: later → s.ctl.expect = .payload .command → s.ctl.param = none →
    (∀ i, decode (.cmd b) ≠ .ok i) →
    ∃ page col settings, step s = .next
      { s with ctl := { s.ctl with inbox := if rest = [] then later else .frame rest :: later, expect := .control,
                                   param := none, meaning := false, page := page, col := col, gdd := [],
                                   settings := settings },
               draws := s.draws + 1 }

/-- What a mirror without a meaning does with its bytes: whatever reaches it, its parts stay unknown and nothing outside the
controller changes (spec 20 R59, R60; log 8); that a Data write that timed out at a cursor outside the geometry leaves it without one
too is the model's (log 7). -/
def Obligations.VoidMirrorTakesItsBytes : Prop :=
  ∀ s : State,
    let void (inbox : List Delivery) (expect : Expect) (page : BitVec 3) (col : Byte) (settings : Settings) :
        Host.Outcome State Fault Refusal :=
      .next { s with ctl := { s.ctl with inbox := inbox, expect := expect, param := none, meaning := false, page := page,
                                         col := col, gdd := [], settings := settings },
                     draws := s.draws + 1 }
    (∀ b i, s.ctl.meaning = false → decode (.cmd b) = .ok i →
      ∃ page col settings, exec i s = void s.ctl.inbox s.ctl.expect page col settings) ∧
    (∀ v rest later, s.ctl.meaning = false → s.ctl.inbox = .frame (v :: rest) :: later → s.ctl.expect = .payload .data →
      ∃ page col settings, step s = void (if rest = [] then later else .frame rest :: later) .control page col settings) ∧
    (∀ tag payload naks later, s.ctl.inbox = .lost tag payload naks :: later →
      (s.ctl.meaning = false ∨
        (tag = .data ∧ (s.cfg.pageCount ≤ s.ctl.page.toNat ∨ s.cfg.segCount ≤ s.ctl.col.toNat))) →
      ∃ page col settings, step s = void later s.ctl.expect page col settings)

/-- A mirror without a meaning never gets one again (spec 20 R59, R60: "from this point on"). -/
def Obligations.VoidMirrorStaysVoid : Prop :=
  ∀ s t, step s = .next t → s.ctl.meaning = false → t.ctl.meaning = false

/-- A Data byte at a cursor inside the geometry: stored there, every other cell as before, the column advanced and wrapped inside
the page, the page unchanged, nothing else changed (spec 20 R60; D21 (c), log 6). -/
def Obligations.DataByteStoredAtTheCursor : Prop :=
  ∀ (s : State) (v : Byte) (rest : List Byte) (later : List Delivery),
    s.ctl.inbox = .frame (v :: rest) :: later → s.ctl.expect = .payload .data → s.ctl.meaning = true →
    s.ctl.page.toNat < s.cfg.pageCount → s.ctl.col.toNat < s.cfg.segCount →
    ∃ m : Memory, step s = .next
      { s with ctl := { s.ctl with inbox := if rest = [] then later else .frame rest :: later, expect := .control,
                                   gdd := m, col := BitVec.ofNat 8 ((s.ctl.col.toNat + 1) % s.cfg.segCount) } } ∧
      ∀ a, Memory.read m a = if a = gddAddr s.ctl.page.toNat s.ctl.col.toNat then some v else Memory.read s.ctl.gdd a

/-- A Data byte at a cursor outside the geometry: the mirror has no meaning from there on (spec 20 R60, 93 U5; that the
machine goes on with the flag cleared, no known cell and fresh values is the model's, log 8). -/
def Obligations.DataByteOutOfRangeVoids : Prop :=
  ∀ (s : State) (v : Byte) (rest : List Byte) (later : List Delivery),
    s.ctl.inbox = .frame (v :: rest) :: later → s.ctl.expect = .payload .data →
    (s.cfg.pageCount ≤ s.ctl.page.toNat ∨ s.cfg.segCount ≤ s.ctl.col.toNat) →
    ∃ page col settings, step s = .next
      { s with ctl := { s.ctl with inbox := if rest = [] then later else .frame rest :: later, expect := .control,
                                   param := none, meaning := false, page := page, col := col, gdd := [],
                                   settings := settings },
               draws := s.draws + 1 }

/-- A write that timed out, as the controller's next event, the mirror having a meaning: its cursor is unknown, wherever it was. A
Command burst changes no cell, and one that was a step of INIT leaves every setting but that step's as it was, so the steps
acknowledged before stay applied (spec 42 R145). A Data burst from a cursor inside the geometry changes no setting, no cell of another
page and no cell the burst could not have reached, and the cells it could have reached have no known value (spec 20 R67, 93 U3; what
the burst could have reached, and the settings, are the model's, log 7 and log 9). -/
def Obligations.LostWriteForgetsTheCursor : Prop :=
  ∀ (s : State) (payload : List Byte) (naks : Nat) (later : List Delivery), s.ctl.meaning = true →
    (s.ctl.inbox = .lost .command payload naks :: later →
      ∃ page col settings, step s = .next
        { s with ctl := { s.ctl with inbox := later, page := page, col := col, settings := settings }, draws := s.draws + 1 } ∧
        (s.ctl.param = none → payload ∈ initStream s.cfg →
          let kept {α : Type} (opcode : Byte) (setting : Settings → α) : Prop :=
            payload.head? ≠ some opcode → setting settings = setting s.ctl.settings
          kept 0xA8#8 Settings.muxRatio ∧ kept 0xD3#8 Settings.dispOffset ∧ kept 0x40#8 Settings.startLine ∧
          kept 0xA1#8 Settings.segRemap ∧ kept 0xC8#8 Settings.comRemap ∧ kept 0xDA#8 Settings.comPins ∧
          kept 0x81#8 Settings.contrast ∧ kept 0xA4#8 Settings.entireOn ∧ kept 0xA6#8 Settings.inverse ∧
          kept 0xD5#8 Settings.clockDiv ∧ kept 0x8D#8 Settings.chargePump ∧ kept 0xAF#8 Settings.displayOn)) ∧
    (s.ctl.inbox = .lost .data payload naks :: later → s.cfg.wf = true → s.ctl.page.toNat < s.cfg.pageCount →
      s.ctl.col.toNat < s.cfg.segCount → Memory.wf s.ctl.gdd = true →
      let reached (c : Nat) : Prop := c < s.cfg.segCount ∧
        (c + s.cfg.segCount - s.ctl.col.toNat) % s.cfg.segCount < payload.length * naks
      ∃ page col m, step s = .next
        { s with ctl := { s.ctl with inbox := later, page := page, col := col, gdd := m }, draws := s.draws + 1 } ∧
        (∀ c, reached c → Memory.read m (gddAddr s.ctl.page.toNat c) = none) ∧
        (∀ a, (∀ c, reached c → a ≠ gddAddr s.ctl.page.toNat c) → Memory.read m a = Memory.read s.ctl.gdd a))

/-! ### The step and the whole machine -/

/-- A step runs the decoded instruction: the host's next request on an idle instance whose controller has nothing to consume, a
control byte, a command byte; each after moving past the word (spec 00 R6, 10 R32, 20 R58; that the controller's byte
comes first while its inbox holds one, and that the host's requests are a list in State, is the model's, log 5 and log 2). -/
def Obligations.StepRunsTheDecodedInstruction : Prop :=
  ∀ (s : State) (i : Instr),
    (∀ r later, s.ctl.inbox = [] → s.seq = .idle → s.host = r :: later → decode (.req r) = .ok i →
      step s = exec i { s with host := later }) ∧
    (∀ b rest later, s.ctl.inbox = .frame (b :: rest) :: later → s.ctl.expect = .control → decode (.ctrl b) = .ok i →
      step s = exec i { s with ctl := { s.ctl with
        inbox := if rest = [] then later else .frame rest :: later, expect := .control } }) ∧
    (∀ b rest later, s.ctl.inbox = .frame (b :: rest) :: later → s.ctl.expect = .payload .command → s.ctl.param = none →
      decode (.cmd b) = .ok i →
      step s = exec i { s with ctl := { s.ctl with
        inbox := if rest = [] then later else .frame rest :: later, expect := .control } })

/-- The fields reset gives a value, for every construction argument: the device address is 0x3C or 0x3D by the strap and by nothing
else (spec 10 R21, R38, 30 R84, 70 R260; the spec's own decision D16; the pending write and the inbox are the model's fields, log 1
and log 5). -/
def Obligations.ConstructionResetValues : Prop :=
  ∀ c : Config, (State.construct c).cfg = c ∧ (State.construct c).addrMode = .page ∧ (State.construct c).synced = false ∧
    (State.construct c).initState = .notInit ∧ (State.construct c).seq = .idle ∧ (State.construct c).wire = [] ∧
    (State.construct c).tx = none ∧ (State.construct c).ctl.inbox = [] ∧
    (State.construct c).cfg.devAddr = if c.sa0 = 0#1 then 0x3C#7 else 0x3D#7

/-- Construction with legal arguments gives a state of the invariant. -/
def Obligations.ConstructionMeetsInvariant : Prop := ∀ c : Config, c.wf = true → (State.construct c).Inv

/-- The invariant of spec 10 R41 is kept by every step, from every state that has it. -/
def Obligations.StepKeepsInvariant : Prop := ∀ s t, s.Inv → step s = .next t → t.Inv

/-- From a state of the invariant a step always answers a next state, but for one case: the host's next request is a WRITE whose
buffer is too short. In particular no control byte on the wire is a reserved one (spec 30 R82, R88; 60 R238; 20 R52). -/
def Obligations.StepAnswersUnlessShortWrite : Prop :=
  ∀ s, s.Inv →
    (∃ t, step s = .next t) ∨
    (step s = .refused .bufferTooShort ∧ s.seq = .idle ∧ s.ctl.inbox = [] ∧
      ∃ r later i, s.host = r :: later ∧ decode (.req r) = .ok i ∧ i.wf = false)

/-- No step changes a construction argument: the straps, the geometry, the policy, the limits, the three INIT sub-parameters
(spec 70 R261). -/
def Obligations.ConfigurationNeverChanges : Prop := ∀ s t, step s = .next t → t.cfg = s.cfg

/-- A failed initialization stays failed (spec 10 R31; the spec's own decision D15). -/
def Obligations.FailedInitializationIsSticky : Prop :=
  ∀ s t, step s = .next t → s.initState = .failed → t.initState = .failed

/-- Only INIT writes the initialization flag (spec 10 R31; the spec's own decision D15). -/
def Obligations.OnlyInitWritesInitState : Prop :=
  ∀ s t, step s = .next t → t.initState ≠ s.initState → t.lat.op = .init

/-- Only an operation with a `Seek` sets `synced` (spec 41 R128, 10 R30; the spec's own decision D14). -/
def Obligations.OnlySeekSetsSynced : Prop :=
  ∀ s t, step s = .next t → s.synced = false → t.synced = true →
    t.lat.op = .seek ∨ t.lat.op = .clear ∨ t.lat.op = .write

/-- No operation answers with BusNak: a step after which the response carries that code has left the response as it was (it can hold
the code only as the unspecified value of reset, log 3) (spec 60 R231). -/
def Obligations.BusNakNeverAnswered : Prop :=
  ∀ s t, step s = .next t → t.rsp.code = .busNak → t.rsp = s.rsp

/-- A response is written only when the operation ends: DPF is idle again (spec 10 R32, R33; 60 R238; the spec's own
decisions D17, D25). -/
def Obligations.ResponseEndsTheOperation : Prop :=
  ∀ s t, step s = .next t → t.rsp ≠ s.rsp → t.seq = .idle

/-- The wire history only grows (spec 10 R34). -/
def Obligations.WireOnlyGrows : Prop :=
  ∀ s t, step s = .next t → ∃ es, t.wire = s.wire ++ es

/-- Nothing DPF puts on the wire, and no response, depends on the cursor registers, `synced`, the initialization flag or the
addressing mode: neither in an instruction nor in a step, the later bursts of a waiting operation among them (spec 10 R35). -/
def Obligations.WireIndependentOfBookkeeping : Prop :=
  ∀ (s t : State) (mode : AddrMode) (page : BitVec 3) (col : Byte) (sync : Bool) (ini : InitState),
    let other : State := { s with addrMode := mode, curPage := page, curCol := col, synced := sync, initState := ini }
    let agree (t' : State) : Prop := t'.wire = t.wire ∧ t'.ctl = t.ctl ∧ t'.rsp = t.rsp ∧ t'.seq = t.seq ∧ t'.tx = t.tx
    (∀ i : Instr, exec i s = .next t → ∃ t', exec i other = .next t' ∧ agree t') ∧
    (step s = .next t → ∃ t', step other = .next t' ∧ agree t')

/-- DPF reads nothing of the controller (spec 10 R39, 20 R57): a request gives the same result, but for the controller's registers
themselves, whatever they hold. -/
def Obligations.RequestsReadNothingOfTheController : Prop :=
  ∀ (r : Request) (i : Instr) (s t : State) (c : Controller), decode (.req r) = .ok i → exec i s = .next t →
    ∃ ds, t.ctl = { s.ctl with inbox := s.ctl.inbox ++ ds } ∧
      exec i { s with ctl := c } = .next { t with ctl := { c with inbox := c.inbox ++ ds } }

/-- A control or command byte changes nothing of DPF, of the caller's side or of the Transport, and no byte of the inbox
(spec 20 R58, R62). -/
def Obligations.WireBytesChangeOnlyTheController : Prop :=
  ∀ (b : Byte) (i : Instr) (s t : State), (decode (.cmd b) = .ok i ∨ decode (.ctrl b) = .ok i) → exec i s = .next t →
    t = { s with ctl := t.ctl, draws := t.draws } ∧ t.ctl.inbox = s.ctl.inbox

/-! ### From the request to the display -/

/-- SEEK in range, then FRAME.D of one byte, run by the machine: the byte is stored at the sought place and nowhere else, and the
controller's cursor is the next column (spec 41 R126; after a successful INIT, as spec 60 R240 and 70 R262 ask of claims
about the display, D21 (h); on the mirror's assumptions D21 and D22, log 6 and log 7). -/
def Obligations.SoughtByteLandsAtTheCursor : Prop :=
  ∀ (s : State) (page column v : Byte) (n m : Nat) (rest : List Attempt) (later : List Request),
    s.Inv → s.initState = .done → s.ready → s.receiverReady → 3 ≤ s.cfg.maxBurst → page.toNat < s.cfg.pageCount →
    column.toNat < s.cfg.segCount → nakAllowed s.cfg.retryLimit n → nakAllowed s.cfg.retryLimit m →
    s.answers = ackedAfter [n, m] rest →
    s.host = { sel := 0x3#4, page := page, column := column } :: { sel := 0x2#4, buf := [v] } :: later →
    ∃ k t, Sys2Proof.core.run k s = .next t ∧ t.host = later ∧ t.receiverReady ∧ t.ready ∧
      (∀ a, Memory.read t.ctl.gdd a =
        if a = gddAddr page.toNat column.toNat then some v else Memory.read s.ctl.gdd a) ∧
      t.ctl.page.toNat = page.toNat ∧ t.ctl.col.toNat = (column.toNat + 1) % s.cfg.segCount

/-- INIT, run by the machine until the controller has consumed it: DPF's cursor and `synced` are as they were, the flag is Done, or
still Failed if it was. Unless it was Failed, the mirror's cursor and RAM are as they were too and the settings are those of the table;
after a failed initialization nothing is said of the display (spec 42 R146, R141, 60 R240, 95 P5; D21 (h); on the mirror's assumptions
D21 and D22, log 6 and log 7, under `NoContinue` on D21 (g) in particular; the settings are the model's record, log 9, three of their
bytes PRESUMED, log 10). -/
def Obligations.InitLeavesCursorAndDisplay : Prop :=
  ∀ (s : State) (ns : List Nat) (rest : List Attempt) (later : List Request),
    s.Inv → s.ready → s.receiverReady → 2 ≤ s.cfg.maxBurst → ns.length = 12 →
    (∀ n ∈ ns, nakAllowed s.cfg.retryLimit n) → s.answers = ackedAfter ns rest →
    s.host = { sel := 0x4#4 } :: later →
    ∃ k t, Sys2Proof.core.run k s = .next t ∧ t.host = later ∧ t.receiverReady ∧ t.ready ∧
      t.curPage = s.curPage ∧ t.curCol = s.curCol ∧ t.synced = s.synced ∧
      t.initState = (if s.initState = .failed then .failed else .done) ∧
      (s.initState ≠ .failed →
        t.ctl.page = s.ctl.page ∧ t.ctl.col = s.ctl.col ∧ t.ctl.gdd = s.ctl.gdd ∧
        t.ctl.settings =
          { startLine := 0#6, contrast := 0x7F#8, chargePump := s.cfg.initChargePump, segRemap := 1#1, entireOn := 0#1,
            inverse := 0#1, muxRatio := 0x3F#8, displayOn := 1#1, comRemap := 1#1, dispOffset := 0x00#8,
            clockDiv := s.cfg.initClock, comPins := s.cfg.initComPins })

/-- CLEAR, run by the machine until the controller has consumed it: every cell of the display RAM is zero, the controller's
cursor is at the last page, column 0 (spec 43 R161; after a successful INIT, as spec 60 R240 and 70 R262 ask of
claims about the display, D21 (h); on the mirror's assumptions D21 and D22, log 6 and log 7). -/
def Obligations.ClearBlanksTheDisplay : Prop :=
  ∀ (s : State) (ns : List Nat) (rest : List Attempt) (later : List Request),
    s.Inv → s.initState = .done → s.ready → s.receiverReady → 3 ≤ s.cfg.maxBurst → s.cfg.segCount ≤ s.cfg.maxBurst →
    ns.length = 2 * s.cfg.pageCount → (∀ n ∈ ns, nakAllowed s.cfg.retryLimit n) → s.answers = ackedAfter ns rest →
    s.host = { sel := 0x5#4 } :: later →
    ∃ k t, Sys2Proof.core.run k s = .next t ∧ t.host = later ∧ t.receiverReady ∧ t.ready ∧
      (∀ p c, p < s.cfg.pageCount → c < s.cfg.segCount → Memory.read t.ctl.gdd (gddAddr p c) = some 0x00#8) ∧
      t.ctl.page.toNat = s.cfg.pageCount - 1 ∧ t.ctl.col = 0#8 ∧
      t.curPage.toNat = s.cfg.pageCount - 1 ∧ t.curCol.toNat = s.cfg.segCount - 1 ∧ t.synced = false

/-- WRITE of a rectangle inside the geometry, run by the machine until the controller has consumed it: the cell at page `p`,
column `startColumn + j` holds `buf[p * columnSpan + j]`, and every other cell is as before (spec 43 R162, R163; 20 R51, R60; the offset is the
spec's own decision D20; after a successful INIT, as spec 60 R240 and 70 R262 ask of claims about the display, D21 (h); on the
mirror's assumptions D21 and D22, log 6 and log 7). -/
def Obligations.WrittenRectangleLands : Prop :=
  ∀ (buf : List Byte) (startPage pageSpan startColumn columnSpan : Byte) (s : State) (ns : List Nat) (rest : List Attempt)
    (later : List Request),
    s.Inv → s.initState = .done → s.ready → s.receiverReady → 3 ≤ s.cfg.maxBurst → columnSpan.toNat ≤ s.cfg.maxBurst →
    1 ≤ pageSpan.toNat → 1 ≤ columnSpan.toNat →
    startPage.toNat + pageSpan.toNat ≤ s.cfg.pageCount → startColumn.toNat + columnSpan.toNat ≤ s.cfg.segCount →
    (startPage.toNat + pageSpan.toNat) * columnSpan.toNat ≤ buf.length →
    ns.length = 2 * pageSpan.toNat → (∀ n ∈ ns, nakAllowed s.cfg.retryLimit n) → s.answers = ackedAfter ns rest →
    s.host = { sel := 0x6#4, startPage := startPage, pageSpan := pageSpan, startColumn := startColumn,
               columnSpan := columnSpan, buf := buf } :: later →
    ∃ k t, Sys2Proof.core.run k s = .next t ∧ t.host = later ∧ t.receiverReady ∧ t.ready ∧
      (∀ p j, startPage.toNat ≤ p → p < startPage.toNat + pageSpan.toNat → j < columnSpan.toNat →
        Memory.read t.ctl.gdd (gddAddr p (startColumn.toNat + j)) = buf[p * columnSpan.toNat + j]?) ∧
      (∀ p c, c < 256 → ¬ (startPage.toNat ≤ p ∧ p < startPage.toNat + pageSpan.toNat ∧
          startColumn.toNat ≤ c ∧ c < startColumn.toNat + columnSpan.toNat) →
        Memory.read t.ctl.gdd (gddAddr p c) = Memory.read s.ctl.gdd (gddAddr p c))
end

