-- ==== Sys2Proof/Laws/Memory.lean ====
section
/-! SUPPORT. The laws of the display RAM: read after write and after forgetting, and that every operation keeps the canonical
form. -/

namespace Sys2Proof.Machine

theorem Memory.read_write_same (m : Memory) (a : Nat) (v : Byte) : Memory.read (Memory.write m a v) a = some v := by
  induction m with
  | nil => simp [Memory.write, Memory.read]
  | cons c m ih =>
    obtain ⟨b, w⟩ := c
    simp only [Memory.write]
    split
    · simp [Memory.read]
    · split
      · simp [Memory.read]
      · simp only [Memory.read]
        rw [if_neg (by omega), ih]

theorem Memory.read_write_other (m : Memory) (a a' : Nat) (v : Byte) (h : a' ≠ a) :
    Memory.read (Memory.write m a v) a' = Memory.read m a' := by
  induction m with
  | nil => simp [Memory.write, Memory.read, Ne.symm h]
  | cons c m ih =>
    obtain ⟨b, w⟩ := c
    simp only [Memory.write]
    split
    · simp [Memory.read, Ne.symm h]
    · split
      · subst b
        simp [Memory.read, Ne.symm h]
      · simp only [Memory.read, ih]

theorem Memory.read_forget_other (m : Memory) (a a' : Nat) (h : a' ≠ a) :
    Memory.read (Memory.forget m a) a' = Memory.read m a' := by
  induction m with
  | nil => rfl
  | cons c m ih =>
    obtain ⟨b, w⟩ := c
    simp only [Memory.forget]
    split
    · subst b
      simp [Memory.read, Ne.symm h]
    · simp only [Memory.read, ih]

/-- Every address of `m` lies above `a`. -/
def Memory.Above (a : Nat) (m : Memory) : Prop := ∀ c ∈ m, a < c.1

theorem Memory.wf_cons_iff (c : Host.Cell) (m : Memory) :
    Memory.wf (c :: m) = true ↔ Memory.Above c.1 m ∧ Memory.wf m = true := by
  induction m generalizing c with
  | nil => obtain ⟨a, v⟩ := c; simp [Memory.wf, Memory.Above]
  | cons d m ih =>
    obtain ⟨a, v⟩ := c
    obtain ⟨b, w⟩ := d
    simp only [Memory.wf, Bool.and_eq_true, decide_eq_true_eq, Memory.Above, List.mem_cons, forall_eq_or_imp]
    constructor
    · rintro ⟨hab, hm⟩
      exact ⟨⟨hab, fun c hc => hab.trans (((ih _).1 hm).1 c hc)⟩, hm⟩
    · rintro ⟨⟨hab, _⟩, hm⟩
      exact ⟨hab, hm⟩

theorem Memory.above_write {b a : Nat} {v : Byte} {m : Memory} (hba : b < a) (h : Memory.Above b m) :
    Memory.Above b (Memory.write m a v) := by
  induction m with
  | nil => simpa [Memory.write, Memory.Above] using hba
  | cons d m ih =>
    obtain ⟨c, w⟩ := d
    have hm : Memory.Above b m := fun x hx => h x (by simp [hx])
    have hc : b < c := h (c, w) (by simp)
    simp only [Memory.write]
    split
    · intro x hx
      rcases List.mem_cons.1 hx with rfl | hx
      · exact hba
      · exact h x hx
    · split
      · intro x hx
        rcases List.mem_cons.1 hx with rfl | hx
        · exact hba
        · exact hm x hx
      · intro x hx
        rcases List.mem_cons.1 hx with rfl | hx
        · exact hc
        · exact ih hm x hx

theorem Memory.write_wf {m : Memory} (a : Nat) (v : Byte) (h : Memory.wf m = true) :
    Memory.wf (Memory.write m a v) = true := by
  induction m with
  | nil => rfl
  | cons d m ih =>
    obtain ⟨b, w⟩ := d
    obtain ⟨hb, hm⟩ := (Memory.wf_cons_iff _ _).1 h
    simp only [Memory.write]
    split
    · rename_i hab
      refine (Memory.wf_cons_iff _ _).2 ⟨fun x hx => ?_, h⟩
      rcases List.mem_cons.1 hx with rfl | hx
      · exact hab
      · exact hab.trans (hb x hx)
    · split
      · subst b
        exact (Memory.wf_cons_iff _ _).2 ⟨hb, hm⟩
      · exact (Memory.wf_cons_iff _ _).2 ⟨Memory.above_write (by simp only; omega) hb, ih hm⟩

theorem Memory.forget_subset (m : Memory) (a : Nat) : ∀ c ∈ Memory.forget m a, c ∈ m := by
  induction m with
  | nil => simp [Memory.forget]
  | cons d m ih =>
    intro c hc
    simp only [Memory.forget] at hc
    split at hc
    · simp [hc]
    · rcases List.mem_cons.1 hc with rfl | hc
      · simp
      · simp [ih c hc]

theorem Memory.forget_wf {m : Memory} (a : Nat) (h : Memory.wf m = true) : Memory.wf (Memory.forget m a) = true := by
  induction m with
  | nil => rfl
  | cons d m ih =>
    obtain ⟨b, w⟩ := d
    obtain ⟨hb, hm⟩ := (Memory.wf_cons_iff _ _).1 h
    simp only [Memory.forget]
    split
    · exact hm
    · exact (Memory.wf_cons_iff _ _).2 ⟨fun x hx => hb x (Memory.forget_subset _ _ x hx), ih hm⟩

theorem Memory.read_above {a : Nat} {m : Memory} (h : Memory.Above a m) : Memory.read m a = none := by
  induction m with
  | nil => rfl
  | cons d m ih =>
    obtain ⟨b, w⟩ := d
    have hb : a < b := h (b, w) (by simp)
    simp only [Memory.read]
    rw [if_neg (by omega), ih (fun x hx => h x (by simp [hx]))]

theorem Memory.read_forget_same {m : Memory} (a : Nat) (h : Memory.wf m = true) :
    Memory.read (Memory.forget m a) a = none := by
  induction m with
  | nil => rfl
  | cons d m ih =>
    obtain ⟨b, w⟩ := d
    obtain ⟨hb, hm⟩ := (Memory.wf_cons_iff _ _).1 h
    simp only [Memory.forget]
    split
    · subst b
      exact Memory.read_above hb
    · simp only [Memory.read]
      rw [if_neg (fun e => by simp_all), ih hm]

theorem Memory.mem_write {m : Memory} {a : Nat} {v : Byte} {c : Host.Cell} (h : c ∈ Memory.write m a v) :
    c = (a, v) ∨ c ∈ m := by
  induction m with
  | nil => simpa [Memory.write] using h
  | cons d m ih =>
    simp only [Memory.write] at h
    split at h
    · simpa using h
    · split at h
      · rcases List.mem_cons.1 h with h | h
        · exact .inl h
        · exact .inr (by simp [h])
      · rcases List.mem_cons.1 h with h | h
        · exact .inr (by simp [h])
        · exact (ih h).imp_right (by simp +contextual)

theorem forgetRow_wf (segCount page col n : Nat) {m : Memory} (h : Memory.wf m = true) :
    Memory.wf (forgetRow segCount page col n m) = true := by
  induction n generalizing col m with
  | zero => exact h
  | succ n ih => exact ih _ (Memory.forget_wf _ h)

theorem forgetRow_subset (segCount page col n : Nat) (m : Memory) :
    ∀ c ∈ forgetRow segCount page col n m, c ∈ m := by
  induction n generalizing col m with
  | zero => exact fun _ h => h
  | succ n ih => exact fun c hc => Memory.forget_subset _ _ c (ih _ _ c hc)

/-- Forgetting part of a row leaves the cells of the other pages alone. -/
theorem read_forgetRow_otherPage (segCount page col n : Nat) (m : Memory) (p c : Nat) (hs : segCount ≤ 256)
    (hcol : col < segCount) (hp : p ≠ page) (hc : c < 256) :
    Memory.read (forgetRow segCount page col n m) (gddAddr p c) = Memory.read m (gddAddr p c) := by
  induction n generalizing col m with
  | zero => rfl
  | succ n ih =>
    rw [forgetRow, ih _ _ (Nat.mod_lt _ (by omega)), Memory.read_forget_other]
    simp only [gddAddr]
    omega

end Sys2Proof.Machine
end

