-- ==== Sys2Proof/Laws/State.lean ====
section
/-! SUPPORT. What each update of State leaves alone: one lemma per update and field. -/

namespace Sys2Proof.Machine

/-! ### setCursor -/

@[simp] theorem setCursor_cfg (page column : Nat) (s : State) : (setCursor page column s).cfg = s.cfg := rfl
@[simp] theorem setCursor_addrMode (page column : Nat) (s : State) : (setCursor page column s).addrMode = s.addrMode := rfl
@[simp] theorem setCursor_initState (page column : Nat) (s : State) : (setCursor page column s).initState = s.initState := rfl
@[simp] theorem setCursor_seq (page column : Nat) (s : State) : (setCursor page column s).seq = s.seq := rfl
@[simp] theorem setCursor_rsp (page column : Nat) (s : State) : (setCursor page column s).rsp = s.rsp := rfl
@[simp] theorem setCursor_wire (page column : Nat) (s : State) : (setCursor page column s).wire = s.wire := rfl
@[simp] theorem setCursor_lat (page column : Nat) (s : State) : (setCursor page column s).lat = s.lat := rfl
@[simp] theorem setCursor_callerBuf (page column : Nat) (s : State) : (setCursor page column s).callerBuf = s.callerBuf := rfl
@[simp] theorem setCursor_tx (page column : Nat) (s : State) : (setCursor page column s).tx = s.tx := rfl
@[simp] theorem setCursor_answers (page column : Nat) (s : State) : (setCursor page column s).answers = s.answers := rfl
@[simp] theorem setCursor_host (page column : Nat) (s : State) : (setCursor page column s).host = s.host := rfl
@[simp] theorem setCursor_ctl (page column : Nat) (s : State) : (setCursor page column s).ctl = s.ctl := rfl
@[simp] theorem setCursor_draws (page column : Nat) (s : State) : (setCursor page column s).draws = s.draws := rfl

/-! ### advanceCursor -/

@[simp] theorem advanceCursor_cfg (n : Nat) (s : State) : (advanceCursor n s).cfg = s.cfg := by
  unfold advanceCursor; split <;> [rfl; split <;> rfl]
@[simp] theorem advanceCursor_addrMode (n : Nat) (s : State) : (advanceCursor n s).addrMode = s.addrMode := by
  unfold advanceCursor; split <;> [rfl; split <;> rfl]
@[simp] theorem advanceCursor_curPage (n : Nat) (s : State) : (advanceCursor n s).curPage = s.curPage := by
  unfold advanceCursor; split <;> [rfl; split <;> rfl]
@[simp] theorem advanceCursor_initState (n : Nat) (s : State) : (advanceCursor n s).initState = s.initState := by
  unfold advanceCursor; split <;> [rfl; split <;> rfl]
@[simp] theorem advanceCursor_seq (n : Nat) (s : State) : (advanceCursor n s).seq = s.seq := by
  unfold advanceCursor; split <;> [rfl; split <;> rfl]
@[simp] theorem advanceCursor_rsp (n : Nat) (s : State) : (advanceCursor n s).rsp = s.rsp := by
  unfold advanceCursor; split <;> [rfl; split <;> rfl]
@[simp] theorem advanceCursor_wire (n : Nat) (s : State) : (advanceCursor n s).wire = s.wire := by
  unfold advanceCursor; split <;> [rfl; split <;> rfl]
@[simp] theorem advanceCursor_lat (n : Nat) (s : State) : (advanceCursor n s).lat = s.lat := by
  unfold advanceCursor; split <;> [rfl; split <;> rfl]
@[simp] theorem advanceCursor_callerBuf (n : Nat) (s : State) : (advanceCursor n s).callerBuf = s.callerBuf := by
  unfold advanceCursor; split <;> [rfl; split <;> rfl]
@[simp] theorem advanceCursor_tx (n : Nat) (s : State) : (advanceCursor n s).tx = s.tx := by
  unfold advanceCursor; split <;> [rfl; split <;> rfl]
@[simp] theorem advanceCursor_answers (n : Nat) (s : State) : (advanceCursor n s).answers = s.answers := by
  unfold advanceCursor; split <;> [rfl; split <;> rfl]
@[simp] theorem advanceCursor_host (n : Nat) (s : State) : (advanceCursor n s).host = s.host := by
  unfold advanceCursor; split <;> [rfl; split <;> rfl]
@[simp] theorem advanceCursor_ctl (n : Nat) (s : State) : (advanceCursor n s).ctl = s.ctl := by
  unfold advanceCursor; split <;> [rfl; split <;> rfl]
@[simp] theorem advanceCursor_draws (n : Nat) (s : State) : (advanceCursor n s).draws = s.draws := by
  unfold advanceCursor; split <;> [rfl; split <;> rfl]

/-! ### unsyncAfterRaw -/

@[simp] theorem unsyncAfterRaw_cfg (n : Nat) (s : State) : (unsyncAfterRaw n s).cfg = s.cfg := by
  unfold unsyncAfterRaw; split <;> rfl
@[simp] theorem unsyncAfterRaw_addrMode (n : Nat) (s : State) : (unsyncAfterRaw n s).addrMode = s.addrMode := by
  unfold unsyncAfterRaw; split <;> rfl
@[simp] theorem unsyncAfterRaw_curPage (n : Nat) (s : State) : (unsyncAfterRaw n s).curPage = s.curPage := by
  unfold unsyncAfterRaw; split <;> rfl
@[simp] theorem unsyncAfterRaw_curCol (n : Nat) (s : State) : (unsyncAfterRaw n s).curCol = s.curCol := by
  unfold unsyncAfterRaw; split <;> rfl
@[simp] theorem unsyncAfterRaw_initState (n : Nat) (s : State) : (unsyncAfterRaw n s).initState = s.initState := by
  unfold unsyncAfterRaw; split <;> rfl
@[simp] theorem unsyncAfterRaw_seq (n : Nat) (s : State) : (unsyncAfterRaw n s).seq = s.seq := by
  unfold unsyncAfterRaw; split <;> rfl
@[simp] theorem unsyncAfterRaw_rsp (n : Nat) (s : State) : (unsyncAfterRaw n s).rsp = s.rsp := by
  unfold unsyncAfterRaw; split <;> rfl
@[simp] theorem unsyncAfterRaw_wire (n : Nat) (s : State) : (unsyncAfterRaw n s).wire = s.wire := by
  unfold unsyncAfterRaw; split <;> rfl
@[simp] theorem unsyncAfterRaw_lat (n : Nat) (s : State) : (unsyncAfterRaw n s).lat = s.lat := by
  unfold unsyncAfterRaw; split <;> rfl
@[simp] theorem unsyncAfterRaw_callerBuf (n : Nat) (s : State) : (unsyncAfterRaw n s).callerBuf = s.callerBuf := by
  unfold unsyncAfterRaw; split <;> rfl
@[simp] theorem unsyncAfterRaw_tx (n : Nat) (s : State) : (unsyncAfterRaw n s).tx = s.tx := by
  unfold unsyncAfterRaw; split <;> rfl
@[simp] theorem unsyncAfterRaw_answers (n : Nat) (s : State) : (unsyncAfterRaw n s).answers = s.answers := by
  unfold unsyncAfterRaw; split <;> rfl
@[simp] theorem unsyncAfterRaw_host (n : Nat) (s : State) : (unsyncAfterRaw n s).host = s.host := by
  unfold unsyncAfterRaw; split <;> rfl
@[simp] theorem unsyncAfterRaw_ctl (n : Nat) (s : State) : (unsyncAfterRaw n s).ctl = s.ctl := by
  unfold unsyncAfterRaw; split <;> rfl
@[simp] theorem unsyncAfterRaw_draws (n : Nat) (s : State) : (unsyncAfterRaw n s).draws = s.draws := by
  unfold unsyncAfterRaw; split <;> rfl

/-! ### raise -/

@[simp] theorem raise_cfg (code : Code) (info : Info) (s : State) : (raise code info s).cfg = s.cfg := rfl
@[simp] theorem raise_addrMode (code : Code) (info : Info) (s : State) : (raise code info s).addrMode = s.addrMode := rfl
@[simp] theorem raise_curPage (code : Code) (info : Info) (s : State) : (raise code info s).curPage = s.curPage := rfl
@[simp] theorem raise_curCol (code : Code) (info : Info) (s : State) : (raise code info s).curCol = s.curCol := rfl
@[simp] theorem raise_synced (code : Code) (info : Info) (s : State) : (raise code info s).synced = s.synced := rfl
@[simp] theorem raise_initState (code : Code) (info : Info) (s : State) : (raise code info s).initState = s.initState := rfl
@[simp] theorem raise_wire (code : Code) (info : Info) (s : State) : (raise code info s).wire = s.wire := rfl
@[simp] theorem raise_lat (code : Code) (info : Info) (s : State) : (raise code info s).lat = s.lat := rfl
@[simp] theorem raise_callerBuf (code : Code) (info : Info) (s : State) : (raise code info s).callerBuf = s.callerBuf := rfl
@[simp] theorem raise_tx (code : Code) (info : Info) (s : State) : (raise code info s).tx = s.tx := rfl
@[simp] theorem raise_answers (code : Code) (info : Info) (s : State) : (raise code info s).answers = s.answers := rfl
@[simp] theorem raise_host (code : Code) (info : Info) (s : State) : (raise code info s).host = s.host := rfl
@[simp] theorem raise_ctl (code : Code) (info : Info) (s : State) : (raise code info s).ctl = s.ctl := rfl
@[simp] theorem raise_draws (code : Code) (info : Info) (s : State) : (raise code info s).draws = s.draws := rfl

/-! ### record -/

@[simp] theorem record_cfg (bytes : List Byte) (naks : Nat) (r : TxResult) (d : Delivery) (s : State) : (record bytes naks r d s).cfg = s.cfg := rfl
@[simp] theorem record_addrMode (bytes : List Byte) (naks : Nat) (r : TxResult) (d : Delivery) (s : State) : (record bytes naks r d s).addrMode = s.addrMode := rfl
@[simp] theorem record_curPage (bytes : List Byte) (naks : Nat) (r : TxResult) (d : Delivery) (s : State) : (record bytes naks r d s).curPage = s.curPage := rfl
@[simp] theorem record_curCol (bytes : List Byte) (naks : Nat) (r : TxResult) (d : Delivery) (s : State) : (record bytes naks r d s).curCol = s.curCol := rfl
@[simp] theorem record_synced (bytes : List Byte) (naks : Nat) (r : TxResult) (d : Delivery) (s : State) : (record bytes naks r d s).synced = s.synced := rfl
@[simp] theorem record_initState (bytes : List Byte) (naks : Nat) (r : TxResult) (d : Delivery) (s : State) : (record bytes naks r d s).initState = s.initState := rfl
@[simp] theorem record_seq (bytes : List Byte) (naks : Nat) (r : TxResult) (d : Delivery) (s : State) : (record bytes naks r d s).seq = s.seq := rfl
@[simp] theorem record_rsp (bytes : List Byte) (naks : Nat) (r : TxResult) (d : Delivery) (s : State) : (record bytes naks r d s).rsp = s.rsp := rfl
@[simp] theorem record_lat (bytes : List Byte) (naks : Nat) (r : TxResult) (d : Delivery) (s : State) : (record bytes naks r d s).lat = s.lat := rfl
@[simp] theorem record_callerBuf (bytes : List Byte) (naks : Nat) (r : TxResult) (d : Delivery) (s : State) : (record bytes naks r d s).callerBuf = s.callerBuf := rfl
@[simp] theorem record_tx (bytes : List Byte) (naks : Nat) (r : TxResult) (d : Delivery) (s : State) : (record bytes naks r d s).tx = s.tx := rfl
@[simp] theorem record_answers (bytes : List Byte) (naks : Nat) (r : TxResult) (d : Delivery) (s : State) : (record bytes naks r d s).answers = s.answers := rfl
@[simp] theorem record_host (bytes : List Byte) (naks : Nat) (r : TxResult) (d : Delivery) (s : State) : (record bytes naks r d s).host = s.host := rfl
@[simp] theorem record_draws (bytes : List Byte) (naks : Nat) (r : TxResult) (d : Delivery) (s : State) : (record bytes naks r d s).draws = s.draws := rfl

/-! ### finish -/

@[simp] theorem finish_cfg (s : State) : (finish s).cfg = s.cfg := by
  unfold finish; split <;> rfl
@[simp] theorem finish_addrMode (s : State) : (finish s).addrMode = s.addrMode := by
  unfold finish; split <;> rfl
@[simp] theorem finish_curPage (s : State) : (finish s).curPage = s.curPage := by
  unfold finish; split <;> rfl
@[simp] theorem finish_curCol (s : State) : (finish s).curCol = s.curCol := by
  unfold finish; split <;> rfl
@[simp] theorem finish_synced (s : State) : (finish s).synced = s.synced := by
  unfold finish; split <;> rfl
@[simp] theorem finish_wire (s : State) : (finish s).wire = s.wire := by
  unfold finish; split <;> rfl
@[simp] theorem finish_lat (s : State) : (finish s).lat = s.lat := by
  unfold finish; split <;> rfl
@[simp] theorem finish_callerBuf (s : State) : (finish s).callerBuf = s.callerBuf := by
  unfold finish; split <;> rfl
@[simp] theorem finish_tx (s : State) : (finish s).tx = s.tx := by
  unfold finish; split <;> rfl
@[simp] theorem finish_answers (s : State) : (finish s).answers = s.answers := by
  unfold finish; split <;> rfl
@[simp] theorem finish_host (s : State) : (finish s).host = s.host := by
  unfold finish; split <;> rfl
@[simp] theorem finish_ctl (s : State) : (finish s).ctl = s.ctl := by
  unfold finish; split <;> rfl
@[simp] theorem finish_draws (s : State) : (finish s).draws = s.draws := by
  unfold finish; split <;> rfl

/-! ### onAck -/

@[simp] theorem onAck_cfg (it : Item) (s : State) : (it.onAck s).cfg = s.cfg := by
  unfold Item.onAck; split <;> simp
@[simp] theorem onAck_addrMode (it : Item) (s : State) : (it.onAck s).addrMode = s.addrMode := by
  unfold Item.onAck; split <;> simp
@[simp] theorem onAck_initState (it : Item) (s : State) : (it.onAck s).initState = s.initState := by
  unfold Item.onAck; split <;> simp
@[simp] theorem onAck_seq (it : Item) (s : State) : (it.onAck s).seq = s.seq := by
  unfold Item.onAck; split <;> simp
@[simp] theorem onAck_rsp (it : Item) (s : State) : (it.onAck s).rsp = s.rsp := by
  unfold Item.onAck; split <;> simp
@[simp] theorem onAck_wire (it : Item) (s : State) : (it.onAck s).wire = s.wire := by
  unfold Item.onAck; split <;> simp
@[simp] theorem onAck_lat (it : Item) (s : State) : (it.onAck s).lat = s.lat := by
  unfold Item.onAck; split <;> simp
@[simp] theorem onAck_callerBuf (it : Item) (s : State) : (it.onAck s).callerBuf = s.callerBuf := by
  unfold Item.onAck; split <;> simp
@[simp] theorem onAck_tx (it : Item) (s : State) : (it.onAck s).tx = s.tx := by
  unfold Item.onAck; split <;> simp
@[simp] theorem onAck_answers (it : Item) (s : State) : (it.onAck s).answers = s.answers := by
  unfold Item.onAck; split <;> simp
@[simp] theorem onAck_host (it : Item) (s : State) : (it.onAck s).host = s.host := by
  unfold Item.onAck; split <;> simp
@[simp] theorem onAck_ctl (it : Item) (s : State) : (it.onAck s).ctl = s.ctl := by
  unfold Item.onAck; split <;> simp
@[simp] theorem onAck_draws (it : Item) (s : State) : (it.onAck s).draws = s.draws := by
  unfold Item.onAck; split <;> simp

/-! ### onTimeout -/

@[simp] theorem onTimeout_cfg (it : Item) (s : State) : (it.onTimeout s).cfg = s.cfg := by
  unfold Item.onTimeout; split <;> rfl
@[simp] theorem onTimeout_addrMode (it : Item) (s : State) : (it.onTimeout s).addrMode = s.addrMode := by
  unfold Item.onTimeout; split <;> rfl
@[simp] theorem onTimeout_curPage (it : Item) (s : State) : (it.onTimeout s).curPage = s.curPage := by
  unfold Item.onTimeout; split <;> rfl
@[simp] theorem onTimeout_curCol (it : Item) (s : State) : (it.onTimeout s).curCol = s.curCol := by
  unfold Item.onTimeout; split <;> rfl
@[simp] theorem onTimeout_seq (it : Item) (s : State) : (it.onTimeout s).seq = s.seq := by
  unfold Item.onTimeout; split <;> rfl
@[simp] theorem onTimeout_rsp (it : Item) (s : State) : (it.onTimeout s).rsp = s.rsp := by
  unfold Item.onTimeout; split <;> rfl
@[simp] theorem onTimeout_wire (it : Item) (s : State) : (it.onTimeout s).wire = s.wire := by
  unfold Item.onTimeout; split <;> rfl
@[simp] theorem onTimeout_lat (it : Item) (s : State) : (it.onTimeout s).lat = s.lat := by
  unfold Item.onTimeout; split <;> rfl
@[simp] theorem onTimeout_callerBuf (it : Item) (s : State) : (it.onTimeout s).callerBuf = s.callerBuf := by
  unfold Item.onTimeout; split <;> rfl
@[simp] theorem onTimeout_tx (it : Item) (s : State) : (it.onTimeout s).tx = s.tx := by
  unfold Item.onTimeout; split <;> rfl
@[simp] theorem onTimeout_answers (it : Item) (s : State) : (it.onTimeout s).answers = s.answers := by
  unfold Item.onTimeout; split <;> rfl
@[simp] theorem onTimeout_host (it : Item) (s : State) : (it.onTimeout s).host = s.host := by
  unfold Item.onTimeout; split <;> rfl
@[simp] theorem onTimeout_ctl (it : Item) (s : State) : (it.onTimeout s).ctl = s.ctl := by
  unfold Item.onTimeout; split <;> rfl
@[simp] theorem onTimeout_draws (it : Item) (s : State) : (it.onTimeout s).draws = s.draws := by
  unfold Item.onTimeout; split <;> rfl

/-! ### nextBurst -/

@[simp] theorem nextBurst_cfg (s : State) : (nextBurst s).cfg = s.cfg := by
  unfold nextBurst; split <;> rfl
@[simp] theorem nextBurst_addrMode (s : State) : (nextBurst s).addrMode = s.addrMode := by
  unfold nextBurst; split <;> rfl
@[simp] theorem nextBurst_curPage (s : State) : (nextBurst s).curPage = s.curPage := by
  unfold nextBurst; split <;> rfl
@[simp] theorem nextBurst_curCol (s : State) : (nextBurst s).curCol = s.curCol := by
  unfold nextBurst; split <;> rfl
@[simp] theorem nextBurst_synced (s : State) : (nextBurst s).synced = s.synced := by
  unfold nextBurst; split <;> rfl
@[simp] theorem nextBurst_initState (s : State) : (nextBurst s).initState = s.initState := by
  unfold nextBurst; split <;> rfl
@[simp] theorem nextBurst_rsp (s : State) : (nextBurst s).rsp = s.rsp := by
  unfold nextBurst; split <;> rfl
@[simp] theorem nextBurst_wire (s : State) : (nextBurst s).wire = s.wire := by
  unfold nextBurst; split <;> rfl
@[simp] theorem nextBurst_lat (s : State) : (nextBurst s).lat = s.lat := by
  unfold nextBurst; split <;> rfl
@[simp] theorem nextBurst_callerBuf (s : State) : (nextBurst s).callerBuf = s.callerBuf := by
  unfold nextBurst; split <;> rfl
@[simp] theorem nextBurst_tx (s : State) : (nextBurst s).tx = s.tx := by
  unfold nextBurst; split <;> rfl
@[simp] theorem nextBurst_answers (s : State) : (nextBurst s).answers = s.answers := by
  unfold nextBurst; split <;> rfl
@[simp] theorem nextBurst_host (s : State) : (nextBurst s).host = s.host := by
  unfold nextBurst; split <;> rfl
@[simp] theorem nextBurst_ctl (s : State) : (nextBurst s).ctl = s.ctl := by
  unfold nextBurst; split <;> rfl
@[simp] theorem nextBurst_draws (s : State) : (nextBurst s).draws = s.draws := by
  unfold nextBurst; split <;> rfl

/-! ### drawAttempt -/

@[simp] theorem drawAttempt_cfg (s : State) : (drawAttempt s).cfg = s.cfg := by
  unfold drawAttempt; split <;> rfl
@[simp] theorem drawAttempt_addrMode (s : State) : (drawAttempt s).addrMode = s.addrMode := by
  unfold drawAttempt; split <;> rfl
@[simp] theorem drawAttempt_curPage (s : State) : (drawAttempt s).curPage = s.curPage := by
  unfold drawAttempt; split <;> rfl
@[simp] theorem drawAttempt_curCol (s : State) : (drawAttempt s).curCol = s.curCol := by
  unfold drawAttempt; split <;> rfl
@[simp] theorem drawAttempt_synced (s : State) : (drawAttempt s).synced = s.synced := by
  unfold drawAttempt; split <;> rfl
@[simp] theorem drawAttempt_initState (s : State) : (drawAttempt s).initState = s.initState := by
  unfold drawAttempt; split <;> rfl
@[simp] theorem drawAttempt_seq (s : State) : (drawAttempt s).seq = s.seq := by
  unfold drawAttempt; split <;> rfl
@[simp] theorem drawAttempt_rsp (s : State) : (drawAttempt s).rsp = s.rsp := by
  unfold drawAttempt; split <;> rfl
@[simp] theorem drawAttempt_wire (s : State) : (drawAttempt s).wire = s.wire := by
  unfold drawAttempt; split <;> rfl
@[simp] theorem drawAttempt_lat (s : State) : (drawAttempt s).lat = s.lat := by
  unfold drawAttempt; split <;> rfl
@[simp] theorem drawAttempt_callerBuf (s : State) : (drawAttempt s).callerBuf = s.callerBuf := by
  unfold drawAttempt; split <;> rfl
@[simp] theorem drawAttempt_tx (s : State) : (drawAttempt s).tx = s.tx := by
  unfold drawAttempt; split <;> rfl
@[simp] theorem drawAttempt_host (s : State) : (drawAttempt s).host = s.host := by
  unfold drawAttempt; split <;> rfl
@[simp] theorem drawAttempt_ctl (s : State) : (drawAttempt s).ctl = s.ctl := by
  unfold drawAttempt; split <;> rfl

/-! ### voidMirror -/

@[simp] theorem voidMirror_cfg (s : State) : (voidMirror s).cfg = s.cfg := rfl
@[simp] theorem voidMirror_addrMode (s : State) : (voidMirror s).addrMode = s.addrMode := rfl
@[simp] theorem voidMirror_curPage (s : State) : (voidMirror s).curPage = s.curPage := rfl
@[simp] theorem voidMirror_curCol (s : State) : (voidMirror s).curCol = s.curCol := rfl
@[simp] theorem voidMirror_synced (s : State) : (voidMirror s).synced = s.synced := rfl
@[simp] theorem voidMirror_initState (s : State) : (voidMirror s).initState = s.initState := rfl
@[simp] theorem voidMirror_seq (s : State) : (voidMirror s).seq = s.seq := rfl
@[simp] theorem voidMirror_rsp (s : State) : (voidMirror s).rsp = s.rsp := rfl
@[simp] theorem voidMirror_wire (s : State) : (voidMirror s).wire = s.wire := rfl
@[simp] theorem voidMirror_lat (s : State) : (voidMirror s).lat = s.lat := rfl
@[simp] theorem voidMirror_callerBuf (s : State) : (voidMirror s).callerBuf = s.callerBuf := rfl
@[simp] theorem voidMirror_tx (s : State) : (voidMirror s).tx = s.tx := rfl
@[simp] theorem voidMirror_answers (s : State) : (voidMirror s).answers = s.answers := rfl
@[simp] theorem voidMirror_host (s : State) : (voidMirror s).host = s.host := rfl

/-! ### onMirror -/

@[simp] theorem onMirror_cfg (f : Controller → Controller) (s : State) : (onMirror f s).cfg = s.cfg := by
  unfold onMirror; split <;> rfl
@[simp] theorem onMirror_addrMode (f : Controller → Controller) (s : State) : (onMirror f s).addrMode = s.addrMode := by
  unfold onMirror; split <;> rfl
@[simp] theorem onMirror_curPage (f : Controller → Controller) (s : State) : (onMirror f s).curPage = s.curPage := by
  unfold onMirror; split <;> rfl
@[simp] theorem onMirror_curCol (f : Controller → Controller) (s : State) : (onMirror f s).curCol = s.curCol := by
  unfold onMirror; split <;> rfl
@[simp] theorem onMirror_synced (f : Controller → Controller) (s : State) : (onMirror f s).synced = s.synced := by
  unfold onMirror; split <;> rfl
@[simp] theorem onMirror_initState (f : Controller → Controller) (s : State) : (onMirror f s).initState = s.initState := by
  unfold onMirror; split <;> rfl
@[simp] theorem onMirror_seq (f : Controller → Controller) (s : State) : (onMirror f s).seq = s.seq := by
  unfold onMirror; split <;> rfl
@[simp] theorem onMirror_rsp (f : Controller → Controller) (s : State) : (onMirror f s).rsp = s.rsp := by
  unfold onMirror; split <;> rfl
@[simp] theorem onMirror_wire (f : Controller → Controller) (s : State) : (onMirror f s).wire = s.wire := by
  unfold onMirror; split <;> rfl
@[simp] theorem onMirror_lat (f : Controller → Controller) (s : State) : (onMirror f s).lat = s.lat := by
  unfold onMirror; split <;> rfl
@[simp] theorem onMirror_callerBuf (f : Controller → Controller) (s : State) : (onMirror f s).callerBuf = s.callerBuf := by
  unfold onMirror; split <;> rfl
@[simp] theorem onMirror_tx (f : Controller → Controller) (s : State) : (onMirror f s).tx = s.tx := by
  unfold onMirror; split <;> rfl
@[simp] theorem onMirror_answers (f : Controller → Controller) (s : State) : (onMirror f s).answers = s.answers := by
  unfold onMirror; split <;> rfl
@[simp] theorem onMirror_host (f : Controller → Controller) (s : State) : (onMirror f s).host = s.host := by
  unfold onMirror; split <;> rfl

/-! ### takeParam -/

@[simp] theorem takeParam_cfg (p : Param) (v : Byte) (s : State) : (takeParam p v s).cfg = s.cfg := by
  simp [takeParam]
@[simp] theorem takeParam_addrMode (p : Param) (v : Byte) (s : State) : (takeParam p v s).addrMode = s.addrMode := by
  simp [takeParam]
@[simp] theorem takeParam_curPage (p : Param) (v : Byte) (s : State) : (takeParam p v s).curPage = s.curPage := by
  simp [takeParam]
@[simp] theorem takeParam_curCol (p : Param) (v : Byte) (s : State) : (takeParam p v s).curCol = s.curCol := by
  simp [takeParam]
@[simp] theorem takeParam_synced (p : Param) (v : Byte) (s : State) : (takeParam p v s).synced = s.synced := by
  simp [takeParam]
@[simp] theorem takeParam_initState (p : Param) (v : Byte) (s : State) : (takeParam p v s).initState = s.initState := by
  simp [takeParam]
@[simp] theorem takeParam_seq (p : Param) (v : Byte) (s : State) : (takeParam p v s).seq = s.seq := by
  simp [takeParam]
@[simp] theorem takeParam_rsp (p : Param) (v : Byte) (s : State) : (takeParam p v s).rsp = s.rsp := by
  simp [takeParam]
@[simp] theorem takeParam_wire (p : Param) (v : Byte) (s : State) : (takeParam p v s).wire = s.wire := by
  simp [takeParam]
@[simp] theorem takeParam_lat (p : Param) (v : Byte) (s : State) : (takeParam p v s).lat = s.lat := by
  simp [takeParam]
@[simp] theorem takeParam_callerBuf (p : Param) (v : Byte) (s : State) : (takeParam p v s).callerBuf = s.callerBuf := by
  simp [takeParam]
@[simp] theorem takeParam_tx (p : Param) (v : Byte) (s : State) : (takeParam p v s).tx = s.tx := by
  simp [takeParam]
@[simp] theorem takeParam_answers (p : Param) (v : Byte) (s : State) : (takeParam p v s).answers = s.answers := by
  simp [takeParam]
@[simp] theorem takeParam_host (p : Param) (v : Byte) (s : State) : (takeParam p v s).host = s.host := by
  simp [takeParam]

/-! ### takeData -/

@[simp] theorem takeData_cfg (v : Byte) (s : State) : (takeData v s).cfg = s.cfg := by
  unfold takeData; split <;> rfl
@[simp] theorem takeData_addrMode (v : Byte) (s : State) : (takeData v s).addrMode = s.addrMode := by
  unfold takeData; split <;> rfl
@[simp] theorem takeData_curPage (v : Byte) (s : State) : (takeData v s).curPage = s.curPage := by
  unfold takeData; split <;> rfl
@[simp] theorem takeData_curCol (v : Byte) (s : State) : (takeData v s).curCol = s.curCol := by
  unfold takeData; split <;> rfl
@[simp] theorem takeData_synced (v : Byte) (s : State) : (takeData v s).synced = s.synced := by
  unfold takeData; split <;> rfl
@[simp] theorem takeData_initState (v : Byte) (s : State) : (takeData v s).initState = s.initState := by
  unfold takeData; split <;> rfl
@[simp] theorem takeData_seq (v : Byte) (s : State) : (takeData v s).seq = s.seq := by
  unfold takeData; split <;> rfl
@[simp] theorem takeData_rsp (v : Byte) (s : State) : (takeData v s).rsp = s.rsp := by
  unfold takeData; split <;> rfl
@[simp] theorem takeData_wire (v : Byte) (s : State) : (takeData v s).wire = s.wire := by
  unfold takeData; split <;> rfl
@[simp] theorem takeData_lat (v : Byte) (s : State) : (takeData v s).lat = s.lat := by
  unfold takeData; split <;> rfl
@[simp] theorem takeData_callerBuf (v : Byte) (s : State) : (takeData v s).callerBuf = s.callerBuf := by
  unfold takeData; split <;> rfl
@[simp] theorem takeData_tx (v : Byte) (s : State) : (takeData v s).tx = s.tx := by
  unfold takeData; split <;> rfl
@[simp] theorem takeData_answers (v : Byte) (s : State) : (takeData v s).answers = s.answers := by
  unfold takeData; split <;> rfl
@[simp] theorem takeData_host (v : Byte) (s : State) : (takeData v s).host = s.host := by
  unfold takeData; split <;> rfl

/-! ### takeLost -/

@[simp] theorem takeLost_cfg (tag : Tag) (payload : List Byte) (naks : Nat) (s : State) : (takeLost tag payload naks s).cfg = s.cfg := by
  unfold takeLost; split <;> split <;> rfl
@[simp] theorem takeLost_addrMode (tag : Tag) (payload : List Byte) (naks : Nat) (s : State) : (takeLost tag payload naks s).addrMode = s.addrMode := by
  unfold takeLost; split <;> split <;> rfl
@[simp] theorem takeLost_curPage (tag : Tag) (payload : List Byte) (naks : Nat) (s : State) : (takeLost tag payload naks s).curPage = s.curPage := by
  unfold takeLost; split <;> split <;> rfl
@[simp] theorem takeLost_curCol (tag : Tag) (payload : List Byte) (naks : Nat) (s : State) : (takeLost tag payload naks s).curCol = s.curCol := by
  unfold takeLost; split <;> split <;> rfl
@[simp] theorem takeLost_synced (tag : Tag) (payload : List Byte) (naks : Nat) (s : State) : (takeLost tag payload naks s).synced = s.synced := by
  unfold takeLost; split <;> split <;> rfl
@[simp] theorem takeLost_initState (tag : Tag) (payload : List Byte) (naks : Nat) (s : State) : (takeLost tag payload naks s).initState = s.initState := by
  unfold takeLost; split <;> split <;> rfl
@[simp] theorem takeLost_seq (tag : Tag) (payload : List Byte) (naks : Nat) (s : State) : (takeLost tag payload naks s).seq = s.seq := by
  unfold takeLost; split <;> split <;> rfl
@[simp] theorem takeLost_rsp (tag : Tag) (payload : List Byte) (naks : Nat) (s : State) : (takeLost tag payload naks s).rsp = s.rsp := by
  unfold takeLost; split <;> split <;> rfl
@[simp] theorem takeLost_wire (tag : Tag) (payload : List Byte) (naks : Nat) (s : State) : (takeLost tag payload naks s).wire = s.wire := by
  unfold takeLost; split <;> split <;> rfl
@[simp] theorem takeLost_lat (tag : Tag) (payload : List Byte) (naks : Nat) (s : State) : (takeLost tag payload naks s).lat = s.lat := by
  unfold takeLost; split <;> split <;> rfl
@[simp] theorem takeLost_callerBuf (tag : Tag) (payload : List Byte) (naks : Nat) (s : State) : (takeLost tag payload naks s).callerBuf = s.callerBuf := by
  unfold takeLost; split <;> split <;> rfl
@[simp] theorem takeLost_tx (tag : Tag) (payload : List Byte) (naks : Nat) (s : State) : (takeLost tag payload naks s).tx = s.tx := by
  unfold takeLost; split <;> split <;> rfl
@[simp] theorem takeLost_answers (tag : Tag) (payload : List Byte) (naks : Nat) (s : State) : (takeLost tag payload naks s).answers = s.answers := by
  unfold takeLost; split <;> split <;> rfl
@[simp] theorem takeLost_host (tag : Tag) (payload : List Byte) (naks : Nat) (s : State) : (takeLost tag payload naks s).host = s.host := by
  unfold takeLost; split <;> split <;> rfl

/-! ### takeControl -/

@[simp] theorem takeControl_cfg (cont : Bool) (tag : Tag) (s : State) : (takeControl cont tag s).cfg = s.cfg := rfl
@[simp] theorem takeControl_addrMode (cont : Bool) (tag : Tag) (s : State) : (takeControl cont tag s).addrMode = s.addrMode := rfl
@[simp] theorem takeControl_curPage (cont : Bool) (tag : Tag) (s : State) : (takeControl cont tag s).curPage = s.curPage := rfl
@[simp] theorem takeControl_curCol (cont : Bool) (tag : Tag) (s : State) : (takeControl cont tag s).curCol = s.curCol := rfl
@[simp] theorem takeControl_synced (cont : Bool) (tag : Tag) (s : State) : (takeControl cont tag s).synced = s.synced := rfl
@[simp] theorem takeControl_initState (cont : Bool) (tag : Tag) (s : State) : (takeControl cont tag s).initState = s.initState := rfl
@[simp] theorem takeControl_seq (cont : Bool) (tag : Tag) (s : State) : (takeControl cont tag s).seq = s.seq := rfl
@[simp] theorem takeControl_rsp (cont : Bool) (tag : Tag) (s : State) : (takeControl cont tag s).rsp = s.rsp := rfl
@[simp] theorem takeControl_wire (cont : Bool) (tag : Tag) (s : State) : (takeControl cont tag s).wire = s.wire := rfl
@[simp] theorem takeControl_lat (cont : Bool) (tag : Tag) (s : State) : (takeControl cont tag s).lat = s.lat := rfl
@[simp] theorem takeControl_callerBuf (cont : Bool) (tag : Tag) (s : State) : (takeControl cont tag s).callerBuf = s.callerBuf := rfl
@[simp] theorem takeControl_tx (cont : Bool) (tag : Tag) (s : State) : (takeControl cont tag s).tx = s.tx := rfl
@[simp] theorem takeControl_answers (cont : Bool) (tag : Tag) (s : State) : (takeControl cont tag s).answers = s.answers := rfl
@[simp] theorem takeControl_host (cont : Bool) (tag : Tag) (s : State) : (takeControl cont tag s).host = s.host := rfl
@[simp] theorem takeControl_draws (cont : Bool) (tag : Tag) (s : State) : (takeControl cont tag s).draws = s.draws := rfl

/-! ### takeByte -/

@[simp] theorem takeByte_cfg (rest : List Byte) (later : List Delivery) (s : State) : (takeByte rest later s).cfg = s.cfg := rfl
@[simp] theorem takeByte_addrMode (rest : List Byte) (later : List Delivery) (s : State) : (takeByte rest later s).addrMode = s.addrMode := rfl
@[simp] theorem takeByte_curPage (rest : List Byte) (later : List Delivery) (s : State) : (takeByte rest later s).curPage = s.curPage := rfl
@[simp] theorem takeByte_curCol (rest : List Byte) (later : List Delivery) (s : State) : (takeByte rest later s).curCol = s.curCol := rfl
@[simp] theorem takeByte_synced (rest : List Byte) (later : List Delivery) (s : State) : (takeByte rest later s).synced = s.synced := rfl
@[simp] theorem takeByte_initState (rest : List Byte) (later : List Delivery) (s : State) : (takeByte rest later s).initState = s.initState := rfl
@[simp] theorem takeByte_seq (rest : List Byte) (later : List Delivery) (s : State) : (takeByte rest later s).seq = s.seq := rfl
@[simp] theorem takeByte_rsp (rest : List Byte) (later : List Delivery) (s : State) : (takeByte rest later s).rsp = s.rsp := rfl
@[simp] theorem takeByte_wire (rest : List Byte) (later : List Delivery) (s : State) : (takeByte rest later s).wire = s.wire := rfl
@[simp] theorem takeByte_lat (rest : List Byte) (later : List Delivery) (s : State) : (takeByte rest later s).lat = s.lat := rfl
@[simp] theorem takeByte_callerBuf (rest : List Byte) (later : List Delivery) (s : State) : (takeByte rest later s).callerBuf = s.callerBuf := rfl
@[simp] theorem takeByte_tx (rest : List Byte) (later : List Delivery) (s : State) : (takeByte rest later s).tx = s.tx := rfl
@[simp] theorem takeByte_answers (rest : List Byte) (later : List Delivery) (s : State) : (takeByte rest later s).answers = s.answers := rfl
@[simp] theorem takeByte_host (rest : List Byte) (later : List Delivery) (s : State) : (takeByte rest later s).host = s.host := rfl
@[simp] theorem takeByte_draws (rest : List Byte) (later : List Delivery) (s : State) : (takeByte rest later s).draws = s.draws := rfl

/-! ### sent -/

@[simp] theorem sent_cfg (s : State) (bs : List Burst) (ns : List Nat) (rest : List Attempt) : (s.sent bs ns rest).cfg = s.cfg := rfl
@[simp] theorem sent_addrMode (s : State) (bs : List Burst) (ns : List Nat) (rest : List Attempt) : (s.sent bs ns rest).addrMode = s.addrMode := rfl
@[simp] theorem sent_curPage (s : State) (bs : List Burst) (ns : List Nat) (rest : List Attempt) : (s.sent bs ns rest).curPage = s.curPage := rfl
@[simp] theorem sent_curCol (s : State) (bs : List Burst) (ns : List Nat) (rest : List Attempt) : (s.sent bs ns rest).curCol = s.curCol := rfl
@[simp] theorem sent_synced (s : State) (bs : List Burst) (ns : List Nat) (rest : List Attempt) : (s.sent bs ns rest).synced = s.synced := rfl
@[simp] theorem sent_initState (s : State) (bs : List Burst) (ns : List Nat) (rest : List Attempt) : (s.sent bs ns rest).initState = s.initState := rfl
@[simp] theorem sent_seq (s : State) (bs : List Burst) (ns : List Nat) (rest : List Attempt) : (s.sent bs ns rest).seq = s.seq := rfl
@[simp] theorem sent_rsp (s : State) (bs : List Burst) (ns : List Nat) (rest : List Attempt) : (s.sent bs ns rest).rsp = s.rsp := rfl
@[simp] theorem sent_lat (s : State) (bs : List Burst) (ns : List Nat) (rest : List Attempt) : (s.sent bs ns rest).lat = s.lat := rfl
@[simp] theorem sent_callerBuf (s : State) (bs : List Burst) (ns : List Nat) (rest : List Attempt) : (s.sent bs ns rest).callerBuf = s.callerBuf := rfl
@[simp] theorem sent_tx (s : State) (bs : List Burst) (ns : List Nat) (rest : List Attempt) : (s.sent bs ns rest).tx = s.tx := rfl
@[simp] theorem sent_host (s : State) (bs : List Burst) (ns : List Nat) (rest : List Attempt) : (s.sent bs ns rest).host = s.host := rfl
@[simp] theorem sent_draws (s : State) (bs : List Burst) (ns : List Nat) (rest : List Attempt) : (s.sent bs ns rest).draws = s.draws := rfl

/-! ### lostBurst -/

@[simp] theorem lostBurst_cfg (s : State) (b : Burst) (n : Nat) (rest : List Attempt) : (s.lostBurst b n rest).cfg = s.cfg := rfl
@[simp] theorem lostBurst_addrMode (s : State) (b : Burst) (n : Nat) (rest : List Attempt) : (s.lostBurst b n rest).addrMode = s.addrMode := rfl
@[simp] theorem lostBurst_curPage (s : State) (b : Burst) (n : Nat) (rest : List Attempt) : (s.lostBurst b n rest).curPage = s.curPage := rfl
@[simp] theorem lostBurst_curCol (s : State) (b : Burst) (n : Nat) (rest : List Attempt) : (s.lostBurst b n rest).curCol = s.curCol := rfl
@[simp] theorem lostBurst_initState (s : State) (b : Burst) (n : Nat) (rest : List Attempt) : (s.lostBurst b n rest).initState = s.initState := rfl
@[simp] theorem lostBurst_seq (s : State) (b : Burst) (n : Nat) (rest : List Attempt) : (s.lostBurst b n rest).seq = s.seq := rfl
@[simp] theorem lostBurst_rsp (s : State) (b : Burst) (n : Nat) (rest : List Attempt) : (s.lostBurst b n rest).rsp = s.rsp := rfl
@[simp] theorem lostBurst_lat (s : State) (b : Burst) (n : Nat) (rest : List Attempt) : (s.lostBurst b n rest).lat = s.lat := rfl
@[simp] theorem lostBurst_callerBuf (s : State) (b : Burst) (n : Nat) (rest : List Attempt) : (s.lostBurst b n rest).callerBuf = s.callerBuf := rfl
@[simp] theorem lostBurst_tx (s : State) (b : Burst) (n : Nat) (rest : List Attempt) : (s.lostBurst b n rest).tx = s.tx := rfl
@[simp] theorem lostBurst_host (s : State) (b : Burst) (n : Nat) (rest : List Attempt) : (s.lostBurst b n rest).host = s.host := rfl
@[simp] theorem lostBurst_draws (s : State) (b : Burst) (n : Nat) (rest : List Attempt) : (s.lostBurst b n rest).draws = s.draws := rfl

/-! ### What the updates write -/

@[simp] theorem raise_seq (code : Code) (info : Info) (s : State) : (raise code info s).seq = .idle := rfl
@[simp] theorem raise_rsp (code : Code) (info : Info) (s : State) : (raise code info s).rsp = { code := code, info := info } := rfl
@[simp] theorem finish_seq (s : State) : (finish s).seq = .idle := by unfold finish; split <;> rfl
@[simp] theorem record_wire (bytes : List Byte) (naks : Nat) (r : TxResult) (d : Delivery) (s : State) :
    (record bytes naks r d s).wire = s.wire ++ [{ dev := s.cfg.devAddr, bytes := bytes, naks := naks, result := r }] := rfl
@[simp] theorem record_ctl (bytes : List Byte) (naks : Nat) (r : TxResult) (d : Delivery) (s : State) :
    (record bytes naks r d s).ctl = { s.ctl with inbox := s.ctl.inbox ++ [d] } := rfl
@[simp] theorem voidMirror_meaning (s : State) : (voidMirror s).ctl.meaning = false := rfl
@[simp] theorem voidMirror_inbox (s : State) : (voidMirror s).ctl.inbox = s.ctl.inbox := rfl
@[simp] theorem voidMirror_expect (s : State) : (voidMirror s).ctl.expect = s.ctl.expect := rfl
@[simp] theorem voidMirror_gdd (s : State) : (voidMirror s).ctl.gdd = [] := rfl
@[simp] theorem voidMirror_param (s : State) : (voidMirror s).ctl.param = none := rfl

end Sys2Proof.Machine
end

