-- ==== Sys2Proof/Laws/Ops.lean ====
section
/-! SUPPORT. The shared operations of DPF, each said once: how a run of attempts, a burst and a burst list can end, and what they
leave alone. -/

namespace Sys2Proof.Machine

/-! ### Attempts -/

/-- Everything a run of attempts can do: Naks up to the Ack, Naks up to RETRY_LIMIT, or Naks only. -/
theorem attempts_cases (limit : Option Nat) (k : Nat) (as : List Attempt) :
    (∃ n rest, as = List.replicate n .nak ++ .ack :: rest ∧ attempts limit k as = .acked (k + n) rest ∧
        (∀ m, limit = some m → k < m → k + n < m)) ∨
    (∃ n rest, as = List.replicate (n + 1) .nak ++ rest ∧ limit = some (k + n + 1) ∧
        attempts limit k as = .timedOut (k + n + 1) rest) ∨
    (∃ n, as = List.replicate n .nak ∧ attempts limit k as = .waiting (k + n) ∧
        (∀ m, limit = some m → k < m → k + n < m)) := by
  induction as generalizing k with
  | nil => exact .inr (.inr ⟨0, rfl, rfl, fun m _ h => h⟩)
  | cons a as ih =>
    cases a with
    | ack => exact .inl ⟨0, as, rfl, rfl, fun m _ h => h⟩
    | nak =>
      by_cases hl : limit = some (k + 1)
      · exact .inr (.inl ⟨0, as, rfl, hl, by simp [attempts, hl]⟩)
      · have hstep : attempts limit k (.nak :: as) = attempts limit (k + 1) as := by simp [attempts, hl]
        have hlt : ∀ m, limit = some m → k < m → k + 1 < m := fun m hm hk => by
          rcases Nat.lt_or_ge (k + 1) m with h | h
          · exact h
          · exact absurd (hm.trans (congrArg some (by omega))) hl
        rcases ih (k + 1) with ⟨n, rest, rfl, h, hb⟩ | ⟨n, rest, rfl, hlim, h⟩ | ⟨n, rfl, h, hb⟩
        · exact .inl ⟨n + 1, rest, by simp [List.replicate_succ], by rw [hstep, h]; congr 1; omega,
            fun m hm hk => by have := hb m hm (hlt m hm hk); omega⟩
        · exact .inr (.inl ⟨n + 1, rest, by simp [List.replicate_succ], by rw [hlim]; congr 1; omega,
            by rw [hstep, h]; congr 1; omega⟩)
        · exact .inr (.inr ⟨n + 1, by simp [List.replicate_succ], by rw [hstep, h]; congr 1; omega,
            fun m hm hk => by have := hb m hm (hlt m hm hk); omega⟩)

/-- Outcomes decided later go on where the earlier ones ended. -/
theorem attempts_append (limit : Option Nat) (k : Nat) (as bs : List Attempt) :
    attempts limit k (as ++ bs) =
      match attempts limit k as with
      | .acked n rest => .acked n (rest ++ bs)
      | .timedOut n rest => .timedOut n (rest ++ bs)
      | .waiting n => attempts limit n bs := by
  induction as generalizing k with
  | nil => rfl
  | cons a as ih =>
    cases a with
    | ack => rfl
    | nak =>
      simp only [List.cons_append, attempts]
      split
      · rfl
      · exact ih (k + 1)

/-! ### What a run of DPF leaves alone -/

/-- What no part of a running operation changes: the configuration, the latches, the caller's side, the controller's registers;
`wire` and the controller's inbox grow at their ends, a failed initialization stays. -/
structure DpfFrame (s t : State) : Prop where
  cfg : t.cfg = s.cfg
  addrMode : t.addrMode = s.addrMode
  lat : t.lat = s.lat
  callerBuf : t.callerBuf = s.callerBuf
  host : t.host = s.host
  draws : t.draws = s.draws
  wire : ∃ es, t.wire = s.wire ++ es
  ctl : ∃ ds, t.ctl = { s.ctl with inbox := s.ctl.inbox ++ ds }
  failed : s.initState = .failed → t.initState = .failed

theorem DpfFrame.refl (s : State) : DpfFrame s s :=
  ⟨rfl, rfl, rfl, rfl, rfl, rfl, ⟨[], by simp⟩, ⟨[], by simp⟩, id⟩

theorem DpfFrame.trans {s t u : State} (h : DpfFrame s t) (h' : DpfFrame t u) : DpfFrame s u := by
  obtain ⟨es, he⟩ := h.wire
  obtain ⟨es', he'⟩ := h'.wire
  obtain ⟨ds, hd⟩ := h.ctl
  obtain ⟨ds', hd'⟩ := h'.ctl
  exact ⟨h'.cfg.trans h.cfg, h'.addrMode.trans h.addrMode, h'.lat.trans h.lat, h'.callerBuf.trans h.callerBuf,
    h'.host.trans h.host, h'.draws.trans h.draws, ⟨es ++ es', by rw [he', he, List.append_assoc]⟩,
    ⟨ds ++ ds', by simp [hd', hd, List.append_assoc]⟩, h'.failed ∘ h.failed⟩

theorem onAck_frame (it : Item) (s : State) : DpfFrame s (it.onAck s) :=
  ⟨by simp, by simp, by simp, by simp, by simp, by simp, ⟨[], by simp⟩, ⟨[], by simp⟩, by simp⟩

theorem onTimeout_frame (it : Item) (s : State) : DpfFrame s (it.onTimeout s) :=
  ⟨by simp, by simp, by simp, by simp, by simp, by simp, ⟨[], by simp⟩, ⟨[], by simp⟩,
    fun h => by cases it <;> simp_all [Item.onTimeout]⟩

theorem record_frame (bytes : List Byte) (naks : Nat) (r : TxResult) (d : Delivery) (s : State) :
    DpfFrame s (record bytes naks r d s) :=
  ⟨rfl, rfl, rfl, rfl, rfl, rfl, ⟨_, rfl⟩, ⟨[d], rfl⟩, id⟩

theorem nextBurst_frame (s : State) : DpfFrame s (nextBurst s) :=
  ⟨by simp, by simp, by simp, by simp, by simp, by simp, ⟨[], by simp⟩, ⟨[], by simp⟩, by simp⟩

theorem raise_frame (code : Code) (info : Info) (s : State) : DpfFrame s (raise code info s) :=
  ⟨rfl, rfl, rfl, rfl, rfl, rfl, ⟨[], by simp⟩, ⟨[], by simp⟩, id⟩

theorem finish_frame (s : State) : DpfFrame s (finish s) :=
  ⟨by simp, by simp, by simp, by simp, by simp, by simp, ⟨[], by simp⟩, ⟨[], by simp⟩,
    fun h => by unfold finish; split <;> simp [h, initStateAfterOk]⟩

/-- The state a burst ends in, however it ends. -/
def BurstEnd.state : BurstEnd → State
  | .done s => s
  | .raised _ _ s => s
  | .blocked s => s

/-- Everything a write can do to the state: acknowledged, out of attempts, or still pending. -/
theorem transmit_cases (it : Item) (w : PendingWrite) (s : State) :
    (∃ naks rest, attempts s.cfg.retryLimit w.naks s.answers = .acked naks rest ∧
      transmit it w s = .done (it.onAck (record w.bytes naks .ack (.frame w.bytes) { s with tx := none, answers := rest }))) ∨
    (∃ naks rest, attempts s.cfg.retryLimit w.naks s.answers = .timedOut naks rest ∧
      transmit it w s = .raised .transportTimeout .none
        (it.onTimeout (record w.bytes naks .timeout (.lost it.tag it.payload naks)
          { s with tx := none, answers := rest }))) ∨
    (∃ naks, attempts s.cfg.retryLimit w.naks s.answers = .waiting naks ∧
      transmit it w s = .blocked { s with tx := some { w with naks := naks }, answers := [] }) := by
  unfold transmit
  rcases h : attempts s.cfg.retryLimit w.naks s.answers with ⟨n, r⟩ | ⟨n, r⟩ | n
  · exact .inl ⟨n, r, rfl, rfl⟩
  · exact .inr (.inl ⟨n, r, rfl, rfl⟩)
  · exact .inr (.inr ⟨n, rfl, rfl⟩)

theorem setPending_frame (s : State) (tx : Option PendingWrite) (as : List Attempt) :
    DpfFrame s { s with tx := tx, answers := as } :=
  ⟨rfl, rfl, rfl, rfl, rfl, rfl, ⟨[], by simp⟩, ⟨[], by simp⟩, id⟩

theorem transmit_frame (it : Item) (w : PendingWrite) (s : State) : DpfFrame s (transmit it w s).state := by
  rcases transmit_cases it w s with ⟨n, r, -, h⟩ | ⟨n, r, -, h⟩ | ⟨n, -, h⟩ <;> rw [h]
  · exact (setPending_frame s none r).trans ((record_frame _ _ _ _ _).trans (onAck_frame _ _))
  · exact (setPending_frame s none r).trans ((record_frame _ _ _ _ _).trans (onTimeout_frame _ _))
  · exact setPending_frame s _ []

/-- Starting an item: rejected by the strict check, too large, empty, or a write of its encoded burst. -/
theorem startItem_cases (it : Item) (s : State) :
    (∃ page column, it = .seek page column ∧ strictRejects s.cfg page column = true ∧
      startItem it s = .raised .addressOutOfRange (.address page column) s) ∨
    ((∀ page column, it = .seek page column → strictRejects s.cfg page column = false) ∧
      ((s.cfg.maxBurst < it.payload.length ∧
          startItem it s = .raised .bufferTooLarge (.count it.payload.length) s) ∨
       (it.payload.length ≤ s.cfg.maxBurst ∧ it.payload = [] ∧ startItem it s = .done (it.onAck s)) ∨
       (it.payload.length ≤ s.cfg.maxBurst ∧ it.payload ≠ [] ∧
          startItem it s = transmit it { bytes := encodeBurst s.cfg.policy it.tag it.payload, naks := 0 } s))) := by
  have hb : ∀ bytes, bytes = it.payload →
      (s.cfg.maxBurst < it.payload.length ∧ burst bytes it s = .raised .bufferTooLarge (.count it.payload.length) s) ∨
      (it.payload.length ≤ s.cfg.maxBurst ∧ it.payload = [] ∧ burst bytes it s = .done (it.onAck s)) ∨
      (it.payload.length ≤ s.cfg.maxBurst ∧ it.payload ≠ [] ∧
        burst bytes it s = transmit it { bytes := encodeBurst s.cfg.policy it.tag it.payload, naks := 0 } s) := by
    rintro _ rfl
    unfold burst
    by_cases h1 : s.cfg.maxBurst < it.payload.length
    · exact .inl ⟨h1, if_pos h1⟩
    · rw [if_neg h1]
      by_cases h2 : it.payload = []
      · exact .inr (.inl ⟨by omega, h2, if_pos h2⟩)
      · exact .inr (.inr ⟨by omega, h2, if_neg h2⟩)
  cases it with
  | seek page column =>
    by_cases hr : strictRejects s.cfg page column = true
    · exact .inl ⟨page, column, rfl, hr, by simp [startItem, hr]⟩
    · refine .inr ⟨fun p c h => by cases h; simpa using hr, ?_⟩
      have he : startItem (.seek page column) s = burst (seekBytes page column) (.seek page column) s := by
        simp [startItem, hr]
      rw [he]
      exact hb (seekBytes page column) rfl
  | raw tag bytes => exact .inr ⟨fun _ _ h => (by cases h), hb bytes rfl⟩
  | initStep bytes => exact .inr ⟨fun _ _ h => (by cases h), hb bytes rfl⟩

theorem startItem_frame (it : Item) (s : State) : DpfFrame s (startItem it s).state := by
  rcases startItem_cases it s with ⟨_, _, _, _, h⟩ | ⟨-, ⟨_, h⟩ | ⟨_, _, h⟩ | ⟨_, _, h⟩⟩ <;> rw [h]
  · exact .refl s
  · exact .refl s
  · exact onAck_frame it s
  · exact transmit_frame _ _ s

/-- What follows the end of a burst: the rest of the list, the error, or waiting. -/
def afterBurst (rest : List Item) : BurstEnd → State
  | .done s => runItems rest (nextBurst s)
  | .raised code info s => raise code info s
  | .blocked s => s

theorem runItems_cons (it : Item) (rest : List Item) (s : State) :
    runItems (it :: rest) s = afterBurst rest (startItem it s) := by
  rw [runItems]; rcases startItem it s with s' | ⟨c, i, s'⟩ | s' <;> rfl

theorem runItems_frame (items : List Item) (s : State) : DpfFrame s (runItems items s) := by
  induction items generalizing s with
  | nil => exact finish_frame s
  | cons it rest ih =>
    rw [runItems_cons]
    have h := startItem_frame it s
    revert h
    rcases startItem it s with s' | ⟨c, i, s'⟩ | s' <;> intro h
    · exact h.trans ((nextBurst_frame s').trans (ih _))
    · exact h.trans (raise_frame c i s')
    · exact h

theorem afterBurst_frame (rest : List Item) (e : BurstEnd) : DpfFrame e.state (afterBurst rest e) := by
  rcases e with s' | ⟨c, i, s'⟩ | s'
  · exact (nextBurst_frame _).trans (runItems_frame _ _)
  · exact raise_frame _ _ _
  · exact .refl _

/-- Going on with an operation: its pending write, then the rest; or, with no write pending, the rest as it stands. -/
theorem resume_cases (s : State) :
    (s.seq = .idle ∧ resume s = s) ∨
    (∃ k it rest w, s.seq = .running k ∧ (plan s.cfg s.lat s.callerBuf).drop k = it :: rest ∧ s.tx = some w ∧
      resume s = afterBurst rest (transmit it w s)) ∨
    (∃ k, s.seq = .running k ∧ ((plan s.cfg s.lat s.callerBuf).drop k = [] ∨ s.tx = none) ∧
      resume s = runItems ((plan s.cfg s.lat s.callerBuf).drop k) s) := by
  unfold resume
  rcases hs : s.seq with _ | k
  · exact .inl ⟨rfl, rfl⟩
  · rcases hp : (plan s.cfg s.lat s.callerBuf).drop k with _ | ⟨it, rest⟩
    · exact .inr (.inr ⟨k, rfl, .inl hp, by simp only [hp]⟩)
    · rcases ht : s.tx with _ | w
      · exact .inr (.inr ⟨k, rfl, .inr rfl, by simp only [hp]⟩)
      · refine .inr (.inl ⟨k, it, rest, w, rfl, hp, rfl, ?_⟩)
        simp only [hp]
        rcases transmit it w s with s' | ⟨c, i, s'⟩ | s' <;> rfl

theorem resume_frame (s : State) : DpfFrame s (resume s) := by
  rcases resume_cases s with ⟨-, h⟩ | ⟨k, it, rest, w, -, -, -, h⟩ | ⟨k, -, -, h⟩ <;> rw [h]
  · exact .refl s
  · exact (transmit_frame it w s).trans (afterBurst_frame _ _)
  · exact runItems_frame _ s

/-- Accepting a request: the run of its burst list from the latched state, or a refusal while an operation runs. -/
theorem accept_cases (load : Latches → Latches) (buf : List Byte) (s : State) :
    (s.seq = .idle ∧ accept load buf s = .next (runItems (plan s.cfg (load s.lat) buf)
      { s with lat := load s.lat, callerBuf := buf, seq := .running 0 })) ∨
    (s.seq ≠ .idle ∧ accept load buf s = .refused .requestWhileRunning) := by
  by_cases h : s.seq = .idle
  · exact .inl ⟨h, if_pos h⟩
  · exact .inr ⟨h, if_neg h⟩

/-! ### The codec -/

theorem encodePairs_ne_nil {policy : Policy} {tag : Tag} {n i : Nat} {bytes : List Byte} (h : bytes ≠ []) :
    encodePairs policy tag n i bytes ≠ [] := by
  cases bytes with
  | nil => exact absurd rfl h
  | cons b bs => simp [encodePairs]

/-- Every control byte DPF builds has zero in bits 5:0. -/
theorem ctrlByte_low (cont : Bool) (tag : Tag) : ctrlByte cont tag &&& 0x3F#8 = 0#8 := by
  cases cont <;> cases tag <;> decide

theorem encodePairs_pairsLegal (policy : Policy) (tag : Tag) (n i : Nat) (bytes : List Byte) :
    pairsLegal (encodePairs policy tag n i bytes) = true := by
  induction bytes generalizing i with
  | nil => rfl
  | cons b bs ih => simp [encodePairs, pairsLegal, ctrlByte_low, ih]

/-! ### The operands -/

theorem bufSlice_length {buf : List Byte} {off n : Nat} (h : off + n ≤ buf.length) : (bufSlice buf off n).length = n := by
  simp [bufSlice]; omega

/-- A slice inside the buffer is the reads of its bytes (spec 20 R52). -/
theorem bufSlice_get {buf : List Byte} {off n j : Nat} (hj : j < n) : (bufSlice buf off n)[j]? = bufRead buf (off + j) := by
  simp [bufSlice, bufRead, hj]

theorem bufSlice_all (buf : List Byte) : bufSlice buf 0 buf.length = buf := by simp [bufSlice]

/-- DEVADDR is one of the two addresses of the part, by the strap alone (spec 10 R21). -/
theorem devAddr_eq (c : Config) : c.devAddr = if c.sa0 = 0#1 then 0x3C#7 else 0x3D#7 := by
  have key : ∀ b : BitVec 1, 0x3C#7 ||| b.setWidth 7 = if b = 0#1 then 0x3C#7 else 0x3D#7 := by decide
  exact key c.sa0

theorem seekBytes_length (page column : Nat) : (seekBytes page column).length = 3 := rfl

/-- WRITE runs on exactly the well-formed instructions. -/
theorem bufferCovers_eq_wf (buf : List Byte) (startPage pageSpan startColumn columnSpan : Byte) :
    bufferCovers buf startPage pageSpan columnSpan = (Instr.write buf startPage pageSpan startColumn columnSpan).wf := rfl

end Sys2Proof.Machine
end

