-- ==== Sys2Proof/Laws/PerInstr.lean ====
section
/-! SUPPORT. Statements made per instruction. -/

namespace Sys2Proof.Laws

/-- The formats of the opcode table. -/
inductive Format
  | ctrl
  | cmd
  | hostreq
deriving DecidableEq, Repr

/-- The format of a word. -/
def formatOf : InstrWord → Format
  | .ctrl _ => .ctrl
  | .cmd _ => .cmd
  | .req _ => .hostreq

/-- The bits the opcode table numbers: the byte, or the selector of a request. -/
def bitsOf : InstrWord → Byte
  | .ctrl b => b
  | .cmd b => b
  | .req r => r.sel.setWidth 8

/-- A row of spec/opcode_table.json: its format, mask and match. -/
structure Row where
  format : Format
  mask : Byte
  value : Byte
deriving DecidableEq, Repr

/-- The row of each instruction, copied from spec/opcode_table.json. -/
def rowOf : Instr → Row
  | .ctrlCmdLast => ⟨.ctrl, 0xFF#8, 0x00#8⟩
  | .ctrlDataLast => ⟨.ctrl, 0xFF#8, 0x40#8⟩
  | .ctrlCmdMore => ⟨.ctrl, 0xFF#8, 0x80#8⟩
  | .ctrlDataMore => ⟨.ctrl, 0xFF#8, 0xC0#8⟩
  | .collo _ => ⟨.cmd, 0xF0#8, 0x00#8⟩
  | .colhi _ => ⟨.cmd, 0xF0#8, 0x10#8⟩
  | .addrmode => ⟨.cmd, 0xFF#8, 0x20#8⟩
  | .colrange => ⟨.cmd, 0xFF#8, 0x21#8⟩
  | .pagerange => ⟨.cmd, 0xFF#8, 0x22#8⟩
  | .scrollsetup26 => ⟨.cmd, 0xFF#8, 0x26#8⟩
  | .scrollsetup27 => ⟨.cmd, 0xFF#8, 0x27#8⟩
  | .scrollsetupV _ => ⟨.cmd, 0xFC#8, 0x28#8⟩
  | .scrolloff => ⟨.cmd, 0xFF#8, 0x2E#8⟩
  | .scrollon => ⟨.cmd, 0xFF#8, 0x2F#8⟩
  | .startline _ => ⟨.cmd, 0xC0#8, 0x40#8⟩
  | .contrast => ⟨.cmd, 0xFF#8, 0x81#8⟩
  | .chargepump => ⟨.cmd, 0xFF#8, 0x8D#8⟩
  | .segremap0 => ⟨.cmd, 0xFF#8, 0xA0#8⟩
  | .segremap1 => ⟨.cmd, 0xFF#8, 0xA1#8⟩
  | .vscrollarea => ⟨.cmd, 0xFF#8, 0xA3#8⟩
  | .entiredispResume => ⟨.cmd, 0xFF#8, 0xA4#8⟩
  | .entiredispOn => ⟨.cmd, 0xFF#8, 0xA5#8⟩
  | .normal => ⟨.cmd, 0xFF#8, 0xA6#8⟩
  | .inverse => ⟨.cmd, 0xFF#8, 0xA7#8⟩
  | .muxratio => ⟨.cmd, 0xFF#8, 0xA8#8⟩
  | .displayoff => ⟨.cmd, 0xFF#8, 0xAE#8⟩
  | .displayon => ⟨.cmd, 0xFF#8, 0xAF#8⟩
  | .pagestart _ => ⟨.cmd, 0xF8#8, 0xB0#8⟩
  | .comscanNormal => ⟨.cmd, 0xFF#8, 0xC0#8⟩
  | .comscanRemap => ⟨.cmd, 0xFF#8, 0xC8#8⟩
  | .dispoffset => ⟨.cmd, 0xFF#8, 0xD3#8⟩
  | .clockdiv => ⟨.cmd, 0xFF#8, 0xD5#8⟩
  | .precharge => ⟨.cmd, 0xFF#8, 0xD9#8⟩
  | .compins => ⟨.cmd, 0xFF#8, 0xDA#8⟩
  | .vcomh => ⟨.cmd, 0xFF#8, 0xDB#8⟩
  | .nop => ⟨.cmd, 0xFF#8, 0xE3#8⟩
  | .getaddr _ => ⟨.hostreq, 0xF#8, 0x0#8⟩
  | .frameC _ => ⟨.hostreq, 0xF#8, 0x1#8⟩
  | .frameD _ => ⟨.hostreq, 0xF#8, 0x2#8⟩
  | .seek _ _ => ⟨.hostreq, 0xF#8, 0x3#8⟩
  | .init => ⟨.hostreq, 0xF#8, 0x4#8⟩
  | .clear => ⟨.hostreq, 0xF#8, 0x5#8⟩
  | .write _ _ _ _ _ => ⟨.hostreq, 0xF#8, 0x6#8⟩
  | .reserved7 => ⟨.hostreq, 0xF#8, 0x7#8⟩
  | .reserved8F _ => ⟨.hostreq, 0x8#8, 0x8#8⟩

/-- The encoder's word of an instruction has its row's format and, under the row's mask, its row's match. -/
def EncodingMatchesTable.Statement (i : Instr) : Prop :=
  formatOf (encode i) = (rowOf i).format ∧ bitsOf (encode i) &&& (rowOf i).mask = (rowOf i).value

theorem EncodingMatchesTable.ctrlCmdLast : EncodingMatchesTable.Statement .ctrlCmdLast := ⟨rfl, rfl⟩
theorem EncodingMatchesTable.ctrlDataLast : EncodingMatchesTable.Statement .ctrlDataLast := ⟨rfl, rfl⟩
theorem EncodingMatchesTable.ctrlCmdMore : EncodingMatchesTable.Statement .ctrlCmdMore := ⟨rfl, rfl⟩
theorem EncodingMatchesTable.ctrlDataMore : EncodingMatchesTable.Statement .ctrlDataMore := ⟨rfl, rfl⟩
theorem EncodingMatchesTable.collo (n : BitVec 4) : EncodingMatchesTable.Statement (.collo n) := ⟨rfl, by revert n; decide⟩
theorem EncodingMatchesTable.colhi (n : BitVec 4) : EncodingMatchesTable.Statement (.colhi n) := ⟨rfl, by revert n; decide⟩
theorem EncodingMatchesTable.addrmode : EncodingMatchesTable.Statement .addrmode := ⟨rfl, rfl⟩
theorem EncodingMatchesTable.colrange : EncodingMatchesTable.Statement .colrange := ⟨rfl, rfl⟩
theorem EncodingMatchesTable.pagerange : EncodingMatchesTable.Statement .pagerange := ⟨rfl, rfl⟩
theorem EncodingMatchesTable.scrollsetup26 : EncodingMatchesTable.Statement .scrollsetup26 := ⟨rfl, rfl⟩
theorem EncodingMatchesTable.scrollsetup27 : EncodingMatchesTable.Statement .scrollsetup27 := ⟨rfl, rfl⟩
theorem EncodingMatchesTable.scrollsetupV (v : BitVec 2) :
    EncodingMatchesTable.Statement (.scrollsetupV v) := ⟨rfl, by revert v; decide⟩
theorem EncodingMatchesTable.scrolloff : EncodingMatchesTable.Statement .scrolloff := ⟨rfl, rfl⟩
theorem EncodingMatchesTable.scrollon : EncodingMatchesTable.Statement .scrollon := ⟨rfl, rfl⟩
theorem EncodingMatchesTable.startline (l : BitVec 6) :
    EncodingMatchesTable.Statement (.startline l) := ⟨rfl, by revert l; decide⟩
theorem EncodingMatchesTable.contrast : EncodingMatchesTable.Statement .contrast := ⟨rfl, rfl⟩
theorem EncodingMatchesTable.chargepump : EncodingMatchesTable.Statement .chargepump := ⟨rfl, rfl⟩
theorem EncodingMatchesTable.segremap0 : EncodingMatchesTable.Statement .segremap0 := ⟨rfl, rfl⟩
theorem EncodingMatchesTable.segremap1 : EncodingMatchesTable.Statement .segremap1 := ⟨rfl, rfl⟩
theorem EncodingMatchesTable.vscrollarea : EncodingMatchesTable.Statement .vscrollarea := ⟨rfl, rfl⟩
theorem EncodingMatchesTable.entiredispResume : EncodingMatchesTable.Statement .entiredispResume := ⟨rfl, rfl⟩
theorem EncodingMatchesTable.entiredispOn : EncodingMatchesTable.Statement .entiredispOn := ⟨rfl, rfl⟩
theorem EncodingMatchesTable.normal : EncodingMatchesTable.Statement .normal := ⟨rfl, rfl⟩
theorem EncodingMatchesTable.inverse : EncodingMatchesTable.Statement .inverse := ⟨rfl, rfl⟩
theorem EncodingMatchesTable.muxratio : EncodingMatchesTable.Statement .muxratio := ⟨rfl, rfl⟩
theorem EncodingMatchesTable.displayoff : EncodingMatchesTable.Statement .displayoff := ⟨rfl, rfl⟩
theorem EncodingMatchesTable.displayon : EncodingMatchesTable.Statement .displayon := ⟨rfl, rfl⟩
theorem EncodingMatchesTable.pagestart (p : BitVec 3) :
    EncodingMatchesTable.Statement (.pagestart p) := ⟨rfl, by revert p; decide⟩
theorem EncodingMatchesTable.comscanNormal : EncodingMatchesTable.Statement .comscanNormal := ⟨rfl, rfl⟩
theorem EncodingMatchesTable.comscanRemap : EncodingMatchesTable.Statement .comscanRemap := ⟨rfl, rfl⟩
theorem EncodingMatchesTable.dispoffset : EncodingMatchesTable.Statement .dispoffset := ⟨rfl, rfl⟩
theorem EncodingMatchesTable.clockdiv : EncodingMatchesTable.Statement .clockdiv := ⟨rfl, rfl⟩
theorem EncodingMatchesTable.precharge : EncodingMatchesTable.Statement .precharge := ⟨rfl, rfl⟩
theorem EncodingMatchesTable.compins : EncodingMatchesTable.Statement .compins := ⟨rfl, rfl⟩
theorem EncodingMatchesTable.vcomh : EncodingMatchesTable.Statement .vcomh := ⟨rfl, rfl⟩
theorem EncodingMatchesTable.nop : EncodingMatchesTable.Statement .nop := ⟨rfl, rfl⟩
theorem EncodingMatchesTable.getaddr (sa0 : BitVec 1) : EncodingMatchesTable.Statement (.getaddr sa0) := ⟨rfl, by simp [bitsOf, encode, rowOf]⟩
theorem EncodingMatchesTable.frameC (buf : List Byte) : EncodingMatchesTable.Statement (.frameC buf) := ⟨rfl, by simp [bitsOf, encode, rowOf]⟩
theorem EncodingMatchesTable.frameD (buf : List Byte) : EncodingMatchesTable.Statement (.frameD buf) := ⟨rfl, by simp [bitsOf, encode, rowOf]⟩
theorem EncodingMatchesTable.seek (page column : Byte) : EncodingMatchesTable.Statement (.seek page column) := ⟨rfl, by simp [bitsOf, encode, rowOf]⟩
theorem EncodingMatchesTable.init : EncodingMatchesTable.Statement .init := ⟨rfl, rfl⟩
theorem EncodingMatchesTable.clear : EncodingMatchesTable.Statement .clear := ⟨rfl, rfl⟩
theorem EncodingMatchesTable.write (buf : List Byte) (startPage pageSpan startColumn columnSpan : Byte) :
    EncodingMatchesTable.Statement (.write buf startPage pageSpan startColumn columnSpan) := ⟨rfl, by simp [bitsOf, encode, rowOf]⟩
theorem EncodingMatchesTable.reserved7 : EncodingMatchesTable.Statement .reserved7 := ⟨rfl, rfl⟩
theorem EncodingMatchesTable.reserved8F (low : BitVec 3) :
    EncodingMatchesTable.Statement (.reserved8F low) := ⟨rfl, by revert low; decide⟩

end Sys2Proof.Laws
end

