-- ==== Sys2Proof/Laws/Step.lean ====
section
/-! SUPPORT. What an instruction and a step can do, each said once. -/

namespace Sys2Proof.Machine

/-- An update of the controller that a listed command makes: the receiver's inbox and latches, the meaning and the RAM stay. -/
structure CommandFrame (f : Controller → Controller) : Prop where
  inbox : ∀ c, (f c).inbox = c.inbox
  expect : ∀ c, (f c).expect = c.expect
  cont : ∀ c, (f c).cont = c.cont
  meaning : ∀ c, (f c).meaning = c.meaning
  gdd : ∀ c, (f c).gdd = c.gdd

/-- Everything a request can do: accept its operands, answer a reserved selector, or refuse a buffer that is too short. -/
theorem exec_request (r : Request) (s : State) :
    (∃ load buf, exec (decodeRequest r) s = accept load buf s) ∨
    (∃ sel, exec (decodeRequest r) s = illegalRequest sel s) ∨
    ((decodeRequest r).wf = false ∧
      exec (decodeRequest r) s = if s.seq = .idle then .refused .bufferTooShort else .refused .requestWhileRunning) := by
  unfold decodeRequest
  iterate 6 (split; · simp only [exec, execGetaddr, execFrameC, execFrameD, execSeek, execInit, execClear]; exact .inl ⟨_, _, rfl⟩)
  split
  · rcases h : bufferCovers r.buf r.startPage r.pageSpan r.columnSpan with _ | _
    · exact .inr (.inr ⟨h, by simp [exec, execWrite, h]⟩)
    · left
      simp only [exec, execWrite, h, if_true]
      exact ⟨_, _, rfl⟩
  split
  · exact .inr (.inl ⟨_, rfl⟩)
  · exact .inr (.inl ⟨_, rfl⟩)

/-- Everything a control byte can do. -/
theorem exec_control {b : Byte} {i : Instr} (h : decodeCtrl b = .ok i) (s : State) :
    ∃ cont tag, b = ctrlByte cont tag ∧ exec i s = .next (takeControl cont tag s) := by
  unfold decodeCtrl at h
  split at h
  · rename_i hb; cases h; exact ⟨false, .command, hb, rfl⟩
  split at h
  · rename_i hb; cases h; exact ⟨false, .data, hb, rfl⟩
  split at h
  · rename_i hb; cases h; exact ⟨true, .command, hb, rfl⟩
  split at h
  · rename_i hb; cases h; exact ⟨true, .data, hb, rfl⟩
  · cases h

/-- The instructions of format CMD. -/
def isCommand (i : Instr) : Bool :=
  match encode i with
  | .cmd _ => true
  | _ => false

theorem isCommand_of_decodeCmd {b : Byte} {i : Instr} (h : decodeCmd b = .ok i) : isCommand i = true := by
  have key : ∀ b : Byte, (match decodeCmd b with | .ok i => isCommand i | .error _ => true) = true := by decide +kernel
  simpa [h] using key b

theorem error_of_decodeCmd {b : Byte} {e : DecodeError} (h : decodeCmd b = .error e) : e = .unlistedCommandByte b := by
  have key : ∀ b : Byte, (match decodeCmd b with | .ok _ => true | .error e => decide (e = .unlistedCommandByte b)) = true := by
    decide +kernel
  simpa [h] using key b

/-- Everything a command byte can do: leave the mirror without a meaning, or one update of it. -/
theorem exec_command {b : Byte} {i : Instr} (h : decodeCmd b = .ok i) (s : State) :
    exec i s = .next (voidMirror s) ∨ ∃ f, CommandFrame f ∧ exec i s = .next (onMirror f s) := by
  have hc := isCommand_of_decodeCmd h
  cases i <;> try cases hc
  all_goals
    simp only [exec, execCollo, execColhi, execAddrmode, execColrange, execPagerange, execScrollsetup26,
      execScrollsetup27, execScrollsetupV, execScrolloff, execScrollon, execStartline, execContrast, execChargepump,
      execSegremap0, execSegremap1, execVscrollarea, execEntiredispResume, execEntiredispOn, execNormal, execInverse,
      execMuxratio, execDisplayoff, execDisplayon, execPagestart, execComscanNormal, execComscanRemap, execDispoffset,
      execClockdiv, execPrecharge, execCompins, execVcomh, execNop]
    first
      | exact Or.inl trivial
      | exact Or.inl rfl
      | refine Or.inr ⟨_, ?_, rfl⟩
        exact ⟨fun _ => rfl, fun _ => rfl, fun _ => rfl, fun _ => rfl, fun _ => rfl⟩

/-! ### The settings after a lost Command burst -/

/-- `paramOf` names the commands that wait for a parameter, and the one they wait for. -/
theorem exec_of_paramOf {i : Instr} {p : Param} (h : paramOf i = some p) (s : State) :
    exec i s = .next (onMirror (awaitParam p) s) := by
  cases i <;> cases h <;> rfl

/-- A command with a parameter writes no setting by itself. -/
theorem forgetCommand_of_paramOf {i : Instr} {p : Param} (h : paramOf i = some p) (d : Nat) (t : Settings) :
    t.forgetCommand d i = t := by
  cases i <;> cases h <;> rfl

/-- A lost burst of one listed command. -/
theorem forgetSettings_single {b : Byte} {i : Instr} (h : decodeCmd b = .ok i) (d : Nat) (t : Settings) :
    forgetSettings d none [b] t = t.forgetCommand d i := by
  simp only [forgetSettings, h]

/-- A lost burst of a command and its parameter: only the setting of that parameter is unknown. -/
theorem forgetSettings_pair {b : Byte} {i : Instr} {p : Param} (h : decodeCmd b = .ok i) (hp : paramOf i = some p) (d : Nat) (v : Byte)
    (t : Settings) : forgetSettings d none [b, v] t = t.forgetParam d p := by
  simp only [forgetSettings, h, hp, forgetCommand_of_paramOf hp]

/-- Everything a step can do, with what it finds at the head of the inbox. `s'` is the state after the byte was taken. -/
theorem step_cases (s : State) :
    (s.ctl.inbox = [] ∧ s.seq ≠ .idle ∧ step s = .next (resume (drawAttempt s))) ∨
    (s.ctl.inbox = [] ∧ s.seq = .idle ∧ s.host = [] ∧ step s = .next s) ∨
    (∃ r later, s.ctl.inbox = [] ∧ s.seq = .idle ∧ s.host = r :: later ∧
      step s = exec (decodeRequest r) { s with host := later }) ∨
    (∃ later, s.ctl.inbox = .frame [] :: later ∧ step s = .next { s with ctl := { s.ctl with inbox := later } }) ∨
    (∃ tag payload naks later, s.ctl.inbox = .lost tag payload naks :: later ∧
      step s = .next (takeLost tag payload naks { s with ctl := { s.ctl with inbox := later } })) ∨
    (∃ b rest later, s.ctl.inbox = .frame (b :: rest) :: later ∧
      ((s.ctl.expect = .control ∧ step s =
          match decodeCtrl b with
          | .ok i => exec i (takeByte rest later s)
          | .error _ => .refused .reservedControlByte) ∨
       (s.ctl.expect = .payload .data ∧ step s = .next (takeData b (takeByte rest later s))) ∨
       (∃ p, s.ctl.expect = .payload .command ∧ s.ctl.param = some p ∧
          step s = .next (takeParam p b (takeByte rest later s))) ∨
       (s.ctl.expect = .payload .command ∧ s.ctl.param = none ∧ step s =
          match decodeCmd b with
          | .ok i => exec i (takeByte rest later s)
          | .error _ => .next (voidMirror (takeByte rest later s))))) := by
  rcases hin : s.ctl.inbox with _ | ⟨⟨bs⟩ | ⟨tag, n, naks⟩, later⟩
  · rcases hs : s.seq with _ | k
    · rcases hh : s.host with _ | ⟨r, later⟩
      · exact .inr (.inl ⟨rfl, rfl, rfl, by simp only [step, fetch, hin, hs, hh]⟩)
      · exact .inr (.inr (.inl ⟨r, later, rfl, rfl, rfl, by simp only [step, fetch, hin, hs, hh, decode]⟩))
    · exact .inl ⟨rfl, by simp, by simp only [step, fetch, hin, hs]⟩
  · rcases bs with _ | ⟨b, rest⟩
    · exact .inr (.inr (.inr (.inl ⟨later, rfl, by simp only [step, fetch, hin]⟩)))
    · refine .inr (.inr (.inr (.inr (.inr ⟨b, rest, later, rfl, ?_⟩))))
      rcases he : s.ctl.expect with _ | ⟨_ | _⟩
      · refine .inl ⟨rfl, ?_⟩
        simp only [step, fetch, hin, fetchByte, he, decode]
        rcases hd : decodeCtrl b with e | i
        · unfold decodeCtrl at hd
          iterate 4 (split at hd; · cases hd)
          cases hd; rfl
        · rfl
      · rcases hp : s.ctl.param with _ | p
        · refine .inr (.inr (.inr ⟨rfl, rfl, ?_⟩))
          simp only [step, fetch, hin, fetchByte, he, hp, decode]
          rcases hd : decodeCmd b with e | i
          · rw [error_of_decodeCmd hd]; rfl
          · rfl
        · exact .inr (.inr (.inl ⟨p, rfl, rfl, by simp only [step, fetch, hin, fetchByte, he, hp]⟩))
      · exact .inr (.inl ⟨rfl, by simp only [step, fetch, hin, fetchByte, he]⟩)
  · exact .inr (.inr (.inr (.inr (.inl ⟨tag, n, naks, later, rfl, by simp only [step, fetch, hin]⟩))))

end Sys2Proof.Machine
end

