-- ==== Sys2Proof/Tests/Slice0.lean ====
section
/-! SUPPORT. The model's own tests. Expected values are those of spec 95 (the vector is named in each docstring) or worked by hand
from the rule named; nothing here is a statement for the provers. -/

namespace Sys2Proof.Tests

open Sys2Proof.Machine

/-! ### Helpers -/

/-- The geometry of V80 and P1: two pages of four columns, MAX_BURST 8. -/
def tiny : Config := { sa0 := 0#1, segCount := 4, pageCount := 2, maxBurst := 8 }

/-- The geometry of V92: two pages of eight columns, MAX_BURST 8. -/
def narrow : Config := { sa0 := 0#1, segCount := 8, pageCount := 2, maxBurst := 8 }

/-- The reference configuration with a bounded retry. -/
def bounded (m : Nat) : Config := { Config.reference with retryLimit := some m }

/-- The reference configuration in strict mode. -/
def strictRef : Config := { Config.reference with strict := true }

/-- An idle instance with the cursor (page, col, sync), every register and setting at a plain value. -/
def start (c : Config) (page : BitVec 3) (col : Byte) (sync : Bool) (answers : List Attempt) : State :=
  { cfg := c, addrMode := .page, curPage := page, curCol := col, synced := sync, initState := .notInit, seq := .idle,
    rsp := { code := .ok, info := .none }, wire := [], answers := answers, callerBuf := [], tx := none, host := [], draws := 2,
    lat := { op := .getaddr, page := 0#8, column := 0#8, startPage := 0#8, pageSpan := 0#8, startColumn := 0#8, columnSpan := 0#8,
             sa0 := 0#1, tag := .command, bufLen := 0 },
    ctl := { inbox := [], expect := .control, cont := false, param := none, meaning := true, page := 0#3, col := 0#8, gdd := [],
             settings := { startLine := 0#6, contrast := 0#8, chargePump := 0#8, segRemap := 0#1, entireOn := 1#1, inverse := 1#1,
                           muxRatio := 0#8, displayOn := 0#1, comRemap := 0#1, dispOffset := 0#8, clockDiv := 0#8,
                           comPins := 0#8 } } }

/-- `start` with the bytes `bs` of a transaction for the controller to consume, the next one taken for `expect`. -/
def receiving (c : Config) (bs : List Byte) (expect : Expect) : State :=
  let s := start c 0#3 0#8 false []
  { s with ctl := { s.ctl with inbox := [.frame bs], expect := expect } }

/-- `s` with the mirror's cursor at (page, col). -/
def State.mirrorAt (s : State) (page : BitVec 3) (col : Byte) : State := { s with ctl := { s.ctl with page := page, col := col } }

/-- The next state of an outcome. -/
def after : Host.Outcome State Fault Refusal → Option State
  | .next s => some s
  | _ => none

/-- What the vectors of spec 95 show of an end state: the transactions on the wire, the response, the cursor triple. -/
structure Shown where
  wire : List (List Byte)
  rsp : Response
  page : Nat
  col : Nat
  synced : Bool
deriving DecidableEq, Repr

/-- `Shown` of an outcome that is a next state. -/
def shown (o : Host.Outcome State Fault Refusal) : Option Shown :=
  (after o).map (fun t => ⟨t.wire.map (fun e => e.bytes), t.rsp, t.curPage.toNat, t.curCol.toNat, t.synced⟩)

/-- What an outcome leaves of the controller's cursor. -/
def cursor (o : Host.Outcome State Fault Refusal) : Option (Nat × Nat) :=
  (after o).map (fun t => (t.ctl.page.toNat, t.ctl.col.toNat))

/-- `n` acknowledged writes. -/
def acks (n : Nat) : List Attempt := List.replicate n .ack

def okay : Response := { code := .ok, info := .none }

/-! ### Well-formedness -/

/-- V98: three bytes do not hold the four that WRITE 0, 2, 0, 2 reads; one more byte does. -/
theorem test_wf_refuses_short_buffer :
    (Instr.write [1#8, 2#8, 3#8] 0#8 2#8 0#8 2#8).wf = false ∧ (Instr.write [1#8, 2#8, 3#8, 4#8] 0#8 2#8 0#8 2#8).wf = true := by decide

/-- 93 U11: with no page or no column nothing is read. -/
theorem test_wf_empty_spans : (Instr.write [] 3#8 0#8 0#8 8#8).wf = true ∧ (Instr.write [] 3#8 2#8 7#8 0#8).wf = true := by decide

/-! ### Decoding: words written out from the tables of spec 30 -/

/-- R82: bit 7 `cont`, bit 6 `type`. -/
theorem test_decode_control_bytes :
    decode (.ctrl 0b00000000#8) = .ok .ctrlCmdLast ∧ decode (.ctrl 0b01000000#8) = .ok .ctrlDataLast ∧
    decode (.ctrl 0b10000000#8) = .ok .ctrlCmdMore ∧ decode (.ctrl 0b11000000#8) = .ok .ctrlDataMore :=
  ⟨rfl, rfl, rfl, rfl⟩

/-- R88 (a): a nonzero bit in 5:0 has no instruction. -/
theorem test_decode_reserved_control :
    decode (.ctrl 0b00000001#8) = .error (.reservedControlByte 0x01#8) ∧
    decode (.ctrl 0b11100000#8) = .error (.reservedControlByte 0xE0#8) := ⟨rfl, rfl⟩

/-- R85, the rows with an operand field, at both ends of the field. -/
theorem test_decode_operand_rows :
    decode (.cmd 0b00000000#8) = .ok (.collo 0#4) ∧ decode (.cmd 0b00001111#8) = .ok (.collo 15#4) ∧
    decode (.cmd 0b00010000#8) = .ok (.colhi 0#4) ∧ decode (.cmd 0b00011111#8) = .ok (.colhi 15#4) ∧
    decode (.cmd 0b00101000#8) = .ok (.scrollsetupV 0#2) ∧ decode (.cmd 0b00101011#8) = .ok (.scrollsetupV 3#2) ∧
    decode (.cmd 0b01000000#8) = .ok (.startline 0#6) ∧ decode (.cmd 0b01111111#8) = .ok (.startline 63#6) ∧
    decode (.cmd 0b10110000#8) = .ok (.pagestart 0#3) ∧ decode (.cmd 0b10110111#8) = .ok (.pagestart 7#3) :=
  ⟨rfl, rfl, rfl, rfl, rfl, rfl, rfl, rfl, rfl, rfl⟩

/-- R85, the rows below 0x80 without an operand. -/
theorem test_decode_low_rows :
    decode (.cmd 0b00100000#8) = .ok .addrmode ∧ decode (.cmd 0b00100001#8) = .ok .colrange ∧
    decode (.cmd 0b00100010#8) = .ok .pagerange ∧ decode (.cmd 0b00100110#8) = .ok .scrollsetup26 ∧
    decode (.cmd 0b00100111#8) = .ok .scrollsetup27 ∧ decode (.cmd 0b00101110#8) = .ok .scrolloff ∧
    decode (.cmd 0b00101111#8) = .ok .scrollon := ⟨rfl, rfl, rfl, rfl, rfl, rfl, rfl⟩

/-- R85, the rows of 0x81 to 0xAF. -/
theorem test_decode_middle_rows :
    decode (.cmd 0b10000001#8) = .ok .contrast ∧ decode (.cmd 0b10001101#8) = .ok .chargepump ∧
    decode (.cmd 0b10100000#8) = .ok .segremap0 ∧ decode (.cmd 0b10100001#8) = .ok .segremap1 ∧
    decode (.cmd 0b10100011#8) = .ok .vscrollarea ∧ decode (.cmd 0b10100100#8) = .ok .entiredispResume ∧
    decode (.cmd 0b10100101#8) = .ok .entiredispOn ∧ decode (.cmd 0b10100110#8) = .ok .normal ∧
    decode (.cmd 0b10100111#8) = .ok .inverse ∧ decode (.cmd 0b10101000#8) = .ok .muxratio ∧
    decode (.cmd 0b10101110#8) = .ok .displayoff ∧ decode (.cmd 0b10101111#8) = .ok .displayon :=
  ⟨rfl, rfl, rfl, rfl, rfl, rfl, rfl, rfl, rfl, rfl, rfl, rfl⟩

/-- R85, the rows from 0xC0 on. -/
theorem test_decode_high_rows :
    decode (.cmd 0b11000000#8) = .ok .comscanNormal ∧ decode (.cmd 0b11001000#8) = .ok .comscanRemap ∧
    decode (.cmd 0b11010011#8) = .ok .dispoffset ∧ decode (.cmd 0b11010101#8) = .ok .clockdiv ∧
    decode (.cmd 0b11011001#8) = .ok .precharge ∧ decode (.cmd 0b11011010#8) = .ok .compins ∧
    decode (.cmd 0b11011011#8) = .ok .vcomh ∧ decode (.cmd 0b11100011#8) = .ok .nop :=
  ⟨rfl, rfl, rfl, rfl, rfl, rfl, rfl, rfl⟩

/-- V106 and R212: bytes the document does not list, next to listed ones. -/
theorem test_decode_unlisted :
    decode (.cmd 0xB8#8) = .error (.unlistedCommandByte 0xB8#8) ∧ decode (.cmd 0x23#8) = .error (.unlistedCommandByte 0x23#8) ∧
    decode (.cmd 0x80#8) = .error (.unlistedCommandByte 0x80#8) ∧ decode (.cmd 0xFF#8) = .error (.unlistedCommandByte 0xFF#8) :=
  ⟨rfl, rfl, rfl, rfl⟩

/-- R212: 135 of the 256 byte values are listed. -/
theorem test_decode_listed_count :
    ((List.range 256).filter (fun n => (decodeTableWord 8 n).isSome && decide (16 ≤ n) && decide (n ≠ 0x80))).length + 16 = 135 := by
  decide +kernel

/-- R89: the selectors. -/
theorem test_decode_requests :
    decode (.req { sel := 0b0000#4, sa0 := 1#1 }) = .ok (.getaddr 1#1) ∧
    decode (.req { sel := 0b0001#4, buf := [0xE3#8] }) = .ok (.frameC [0xE3#8]) ∧
    decode (.req { sel := 0b0010#4, buf := [9#8] }) = .ok (.frameD [9#8]) ∧
    decode (.req { sel := 0b0011#4, page := 3#8, column := 90#8 }) = .ok (.seek 3#8 90#8) ∧
    decode (.req { sel := 0b0100#4 }) = .ok .init ∧ decode (.req { sel := 0b0101#4 }) = .ok .clear ∧
    decode (.req { sel := 0b0110#4, startPage := 1#8, pageSpan := 2#8, startColumn := 3#8, columnSpan := 4#8, buf := [5#8] }) =
      .ok (.write [5#8] 1#8 2#8 3#8 4#8) ∧
    decode (.req { sel := 0b0111#4 }) = .ok .reserved7 ∧ decode (.req { sel := 0b1000#4 }) = .ok (.reserved8F 0#3) ∧
    decode (.req { sel := 0b1111#4 }) = .ok (.reserved8F 7#3) := ⟨rfl, rfl, rfl, rfl, rfl, rfl, rfl, rfl, rfl, rfl⟩

/-- Log 14: a word below 16 is a selector, a listed byte a command byte, 0x80 (not listed) a control byte. -/
theorem test_table_words :
    decodeTableWord 8 0x5 = some .clear ∧ decodeTableWord 8 0xB5 = some (.pagestart 5#3) ∧
    decodeTableWord 8 0x80 = some .ctrlCmdMore ∧ decodeTableWord 8 0xE4 = none := ⟨rfl, rfl, rfl, rfl⟩

/-- The word placed is the next one run, from reset: a request, a command byte, a control byte. -/
theorem test_withFetchWord :
    (after (step (State.reset.withFetchWord 8 0x7))).map (fun t => t.rsp) = some { code := .illegalRequest, info := .selector 7#4 } ∧
    (after (step (State.reset.withFetchWord 8 0xB5))).map (fun t => t.ctl.page) = some 5#3 ∧
    (after (step (State.reset.withFetchWord 8 0x80))).map (fun t => (t.ctl.expect, t.ctl.cont)) =
      some (.payload .command, true) := ⟨rfl, rfl, rfl⟩

/-! ### Encode -/

/-- V12, V13, V15, V16. -/
theorem test_encode_lastTerminates :
    encodeBurst .lastTerminates .command [0x81#8, 0x7F#8] = [0x80#8, 0x81#8, 0x00#8, 0x7F#8] ∧
    encodeBurst .lastTerminates .command [1#8, 2#8, 3#8] = [0x80#8, 1#8, 0x80#8, 2#8, 0x00#8, 3#8] ∧
    encodeBurst .lastTerminates .data [0x81#8, 0x7F#8] = [0xC0#8, 0x81#8, 0x40#8, 0x7F#8] ∧
    encodeBurst .lastTerminates .data [1#8, 2#8, 3#8] = [0xC0#8, 1#8, 0xC0#8, 2#8, 0x40#8, 3#8] := by decide

/-- V17 to V19, V11, V14, V10. -/
theorem test_encode_noContinue_and_short :
    encodeBurst .noContinue .command [0x81#8, 0x7F#8] = [0x00#8, 0x81#8, 0x00#8, 0x7F#8] ∧
    encodeBurst .noContinue .data [1#8, 2#8, 3#8] = [0x40#8, 1#8, 0x40#8, 2#8, 0x40#8, 3#8] ∧
    encodeBurst .lastTerminates .command [0xAA#8] = [0x00#8, 0xAA#8] ∧
    encodeBurst .lastTerminates .data [0xAA#8] = [0x40#8, 0xAA#8] ∧ encodeBurst .lastTerminates .command [] = [] := by decide

/-- R51: bit 0 of a byte is the topmost of its eight rows. -/
theorem test_pixel_rows : pixel [(gddAddr 1 3, 0x01#8)] 8 3 = some true ∧ pixel [(gddAddr 1 3, 0x01#8)] 15 3 = some false ∧
    pixel [(gddAddr 1 3, 0x01#8)] 0 3 = none := by decide

/-- R230: the numbers of the response codes. -/
theorem test_code_numbers : codeNumber .ok = 0 ∧ codeNumber .busNak = 1 ∧ codeNumber .bufferTooLarge = 2 ∧
    codeNumber .addressOutOfRange = 3 ∧ codeNumber .transportTimeout = 4 ∧ codeNumber .illegalRequest = 5 := by decide

/-! ### Host requests, one step each -/

/-- V68: the operand decides, not the strap. -/
theorem test_getaddr :
    shown (exec (.getaddr 0#1) (start Config.reference 1#3 4#8 true [])) = some ⟨[], { code := .ok, info := .device 0x3C#7 }, 1, 4, true⟩ ∧
    shown (exec (.getaddr 1#1) (start Config.reference 1#3 4#8 true [])) = some ⟨[], { code := .ok, info := .device 0x3D#7 }, 1, 4, true⟩ := by
  decide

/-- V35: `80 81 00 7F`, `synced` cleared, the registers kept. -/
theorem test_frameC : shown (exec (.frameC [0x81#8, 0x7F#8]) (start Config.reference 1#3 4#8 true (acks 1))) =
    some ⟨[[0x80#8, 0x81#8, 0x00#8, 0x7F#8]], okay, 1, 4, false⟩ := by decide

/-- V32, V36: the empty burst, and the other policy. -/
theorem test_frameC_empty_and_policy :
    shown (exec (.frameC []) (start Config.reference 1#3 4#8 true [])) = some ⟨[], okay, 1, 4, true⟩ ∧
    shown (exec (.frameC [0x81#8, 0x7F#8]) (start { Config.reference with policy := .noContinue } 1#3 4#8 true (acks 1))) =
      some ⟨[[0x00#8, 0x81#8, 0x00#8, 0x7F#8]], okay, 1, 4, false⟩ := by decide

/-- V30, V31: MAX_BURST passes, one more does not. -/
theorem test_frameD_size :
    shown (exec (.frameD [1#8, 2#8, 3#8, 4#8]) (start { Config.reference with maxBurst := 4 } 1#3 0#8 true (acks 1))) =
      some ⟨[[0xC0#8, 1#8, 0xC0#8, 2#8, 0xC0#8, 3#8, 0x40#8, 4#8]], okay, 1, 4, true⟩ ∧
    shown (exec (.frameD [1#8, 2#8, 3#8, 4#8, 5#8]) (start { Config.reference with maxBurst := 4 } 1#3 4#8 true (acks 1))) =
      some ⟨[], { code := .bufferTooLarge, info := .count 5 }, 1, 4, true⟩ := by decide

/-- V42, V43, V48: the cursor at the end of the row, and unsynchronised. -/
theorem test_advanceCursor :
    (let t := advanceCursor 7 (start Config.reference 3#3 120#8 true []); (t.curCol, t.synced) = (127#8, true)) ∧
    (let t := advanceCursor 8 (start Config.reference 3#3 120#8 true []); (t.curCol, t.synced) = (127#8, false)) ∧
    (let t := advanceCursor 2 (start Config.reference 3#3 50#8 false []); (t.curCol, t.synced) = (50#8, false)) := by decide

/-- V52, V55: the nibbles of column 90; page 9 masked, column 200 kept and out of range. -/
theorem test_seek :
    shown (exec (.seek 3#8 90#8) (start Config.reference 1#3 4#8 true (acks 1))) =
      some ⟨[[0x80#8, 0xB3#8, 0x80#8, 0x0A#8, 0x00#8, 0x15#8]], okay, 3, 90, true⟩ ∧
    shown (exec (.seek 9#8 200#8) (start Config.reference 1#3 4#8 true (acks 1))) =
      some ⟨[[0x80#8, 0xB1#8, 0x80#8, 0x08#8, 0x00#8, 0x1C#8]], okay, 1, 200, false⟩ := by decide

/-- V62, V66, V71: the three errors of SEEK. -/
theorem test_seek_errors :
    shown (exec (.seek 0#8 128#8) (start strictRef 4#3 4#8 true (acks 1))) =
      some ⟨[], { code := .addressOutOfRange, info := .address 0 128 }, 4, 4, true⟩ ∧
    shown (exec (.seek 1#8 1#8) (start { Config.reference with maxBurst := 2 } 1#3 1#8 true (acks 1))) =
      some ⟨[], { code := .bufferTooLarge, info := .count 3 }, 1, 1, true⟩ ∧
    shown (exec (.seek 1#8 1#8) (start (bounded 3) 4#3 4#8 true [.nak, .nak, .nak])) =
      some ⟨[[0x80#8, 0xB1#8, 0x80#8, 0x01#8, 0x00#8, 0x10#8]], { code := .transportTimeout, info := .none }, 4, 4, false⟩ := by decide

/-- V70: two Naks are counted, the third attempt is acknowledged. -/
theorem test_seek_naks : (after (exec (.seek 1#8 1#8) (start (bounded 3) 4#3 4#8 true [.nak, .nak, .ack]))).map (fun t => t.wire) =
    some [{ dev := 0x3C#7, bytes := [0x80#8, 0xB1#8, 0x80#8, 0x01#8, 0x00#8, 0x10#8], naks := 2, result := .ack }] := by decide

/-- V20. -/
theorem test_init : (after (exec .init (start Config.reference 1#3 4#8 true (acks 12)))).map
      (fun t => (t.wire.map (fun e => e.bytes), t.initState, t.rsp, t.synced)) =
    some ([[0x80#8, 0xA8#8, 0x00#8, 0x3F#8], [0x80#8, 0xD3#8, 0x00#8, 0x00#8], [0x00#8, 0x40#8], [0x00#8, 0xA1#8], [0x00#8, 0xC8#8],
           [0x80#8, 0xDA#8, 0x00#8, 0x32#8], [0x80#8, 0x81#8, 0x00#8, 0x7F#8], [0x00#8, 0xA4#8], [0x00#8, 0xA6#8],
           [0x80#8, 0xD5#8, 0x00#8, 0x80#8], [0x80#8, 0x8D#8, 0x00#8, 0x14#8], [0x00#8, 0xAF#8]], .done, okay, true) := by decide

/-- V22: step 5 runs out of attempts. -/
theorem test_init_timeout : (after (exec .init (start (bounded 2) 1#3 4#8 true [.ack, .ack, .nak, .ack, .ack, .nak, .nak]))).map
      (fun t => (t.wire.map (fun e => (e.naks, e.result)), t.initState, t.rsp.code, t.synced)) =
    some ([(0, .ack), (0, .ack), (1, .ack), (0, .ack), (2, .timeout)], .failed, .transportTimeout, false) := by decide

/-- V80. -/
theorem test_clear : shown (exec .clear (start tiny 0#3 0#8 false (acks 4))) =
    some ⟨[[0x80#8, 0xB0#8, 0x80#8, 0x00#8, 0x00#8, 0x10#8], [0xC0#8, 0#8, 0xC0#8, 0#8, 0xC0#8, 0#8, 0x40#8, 0#8],
           [0x80#8, 0xB1#8, 0x80#8, 0x00#8, 0x00#8, 0x10#8], [0xC0#8, 0#8, 0xC0#8, 0#8, 0xC0#8, 0#8, 0x40#8, 0#8]],
          okay, 1, 3, false⟩ := by decide

/-- V81, V83: a Data burst too long, and one that runs out of attempts. -/
theorem test_clear_errors :
    shown (exec .clear (start { Config.reference with maxBurst := 64 } 5#3 5#8 true (acks 1))) =
      some ⟨[[0x80#8, 0xB0#8, 0x80#8, 0x00#8, 0x00#8, 0x10#8]], { code := .bufferTooLarge, info := .count 128 }, 0, 0, true⟩ ∧
    (shown (exec .clear (start { tiny with retryLimit := some 1 } 0#3 0#8 false [.ack, .ack, .ack, .nak]))).map
      (fun r => (r.rsp.code, r.page, r.col, r.synced)) = some (.transportTimeout, 1, 0, false) := by decide +kernel

/-- V91: the absolute page gives the offset. -/
theorem test_write : shown (exec (.write [0xA0#8, 0xA1#8, 0xA2#8, 0xB0#8, 0xB1#8, 0xB2#8, 0xC0#8, 0xC1#8, 0xC2#8] 1#8 2#8 124#8 3#8)
      (start Config.reference 0#3 0#8 false (acks 4))) =
    some ⟨[[0x80#8, 0xB1#8, 0x80#8, 0x0C#8, 0x00#8, 0x17#8], [0xC0#8, 0xB0#8, 0xC0#8, 0xB1#8, 0x40#8, 0xB2#8],
           [0x80#8, 0xB2#8, 0x80#8, 0x0C#8, 0x00#8, 0x17#8], [0xC0#8, 0xC0#8, 0xC0#8, 0xC1#8, 0x40#8, 0xC2#8]],
          okay, 2, 127, true⟩ := by decide

/-- V96 in strict mode, V95, V98. -/
theorem test_write_strict_and_spans :
    (shown (exec (.write (List.replicate 14 0#8 ++ [0x71#8, 0x72#8, 0x81#8, 0x82#8]) 7#8 2#8 0#8 2#8)
      (start strictRef 0#3 0#8 false (acks 2)))).map
      (fun r => { r with wire := r.wire.drop 2 }) =
      some ⟨[], { code := .addressOutOfRange, info := .address 8 0 }, 7, 2, true⟩ ∧
    shown (exec (.write [] 3#8 2#8 7#8 0#8) (start Config.reference 0#3 0#8 false (acks 2))) =
      some ⟨[[0x80#8, 0xB3#8, 0x80#8, 0x07#8, 0x00#8, 0x10#8], [0x80#8, 0xB4#8, 0x80#8, 0x07#8, 0x00#8, 0x10#8]],
            okay, 4, 7, true⟩ ∧
    after (exec (.write [1#8, 2#8, 3#8] 0#8 2#8 0#8 2#8) (start Config.reference 0#3 0#8 false (acks 4))) = none := by decide

/-- R235: the selector is the info. -/
theorem test_reserved :
    (shown (exec .reserved7 (start Config.reference 1#3 4#8 true []))).map (fun r => r.rsp) =
      some { code := .illegalRequest, info := .selector 7#4 } ∧
    (shown (exec (.reserved8F 5#3) (start Config.reference 1#3 4#8 true []))).map (fun r => r.rsp) =
      some { code := .illegalRequest, info := .selector 13#4 } := by decide

/-! ### Wire bytes, one step each -/

/-- R81: the four control bytes. -/
theorem test_control_bytes :
    (after (exec .ctrlCmdLast (start tiny 0#3 0#8 false []))).map (fun t => (t.ctl.expect, t.ctl.cont)) = some (.payload .command, false) ∧
    (after (exec .ctrlDataLast (start tiny 0#3 0#8 false []))).map (fun t => (t.ctl.expect, t.ctl.cont)) = some (.payload .data, false) ∧
    (after (exec .ctrlCmdMore (start tiny 0#3 0#8 false []))).map (fun t => (t.ctl.expect, t.ctl.cont)) = some (.payload .command, true) ∧
    (after (exec .ctrlDataMore (start tiny 0#3 0#8 false []))).map (fun t => (t.ctl.expect, t.ctl.cont)) = some (.payload .data, true) := by
  decide

/-- V110: page 3; column 8 in the low nibble of 0x50, then 7 in the high nibble of 0x58: 0x78. -/
theorem test_cursor_commands :
    cursor (exec (.pagestart 3#3) (State.mirrorAt (start tiny 0#3 0#8 false []) 1#3 0x50#8)) = some (3, 0x50) ∧
    cursor (exec (.collo 8#4) (State.mirrorAt (start tiny 0#3 0#8 false []) 3#3 0x5F#8)) = some (3, 0x58) ∧
    cursor (exec (.colhi 7#4) (State.mirrorAt (start tiny 0#3 0#8 false []) 3#3 0x58#8)) = some (3, 0x78) := by decide

/-- 44 R190, R193, R194, R196, R197: the setting named, from the other value. -/
theorem test_settings_a :
    (after (exec (.startline 63#6) (start tiny 0#3 0#8 false []))).map (fun t => t.ctl.settings.startLine) = some 63#6 ∧
    (after (exec .segremap1 (start tiny 0#3 0#8 false []))).map (fun t => t.ctl.settings.segRemap) = some 1#1 ∧
    (after (exec .segremap0 (start tiny 0#3 0#8 false []))).map (fun t => t.ctl.settings.segRemap) = some 0#1 ∧
    (after (exec .entiredispResume (start tiny 0#3 0#8 false []))).map (fun t => t.ctl.settings.entireOn) = some 0#1 ∧
    (after (exec .entiredispOn (start tiny 0#3 0#8 false []))).map (fun t => t.ctl.settings.entireOn) = some 1#1 := by decide

/-- 44 R198, R199, R201, R202, R204, R205, R211. -/
theorem test_settings_b :
    (after (exec .normal (start tiny 0#3 0#8 false []))).map (fun t => t.ctl.settings.inverse) = some 0#1 ∧
    (after (exec .inverse (start tiny 0#3 0#8 false []))).map (fun t => t.ctl.settings.inverse) = some 1#1 ∧
    (after (exec .displayon (start tiny 0#3 0#8 false []))).map (fun t => t.ctl.settings.displayOn) = some 1#1 ∧
    (after (exec .displayoff (start tiny 0#3 0#8 false []))).map (fun t => t.ctl.settings.displayOn) = some 0#1 ∧
    (after (exec .comscanRemap (start tiny 0#3 0#8 false []))).map (fun t => t.ctl.settings.comRemap) = some 1#1 ∧
    (after (exec .comscanNormal (start tiny 0#3 0#8 false []))).map (fun t => t.ctl.settings.comRemap) = some 0#1 ∧
    after (exec .nop (start tiny 0#3 0#8 false [])) = some (start tiny 0#3 0#8 false []) := by decide

/-- 20 R59: each of the six commands waits for its own parameter. -/
theorem test_parameter_commands :
    [Instr.contrast, .chargepump, .muxratio, .dispoffset, .clockdiv, .compins].map
      (fun i => (after (exec i (start tiny 0#3 0#8 false []))).map (fun t => t.ctl.param)) =
    [some (some .contrast), some (some .chargePump), some (some .muxRatio), some (some .dispOffset), some (some .clockDiv),
     some (some .comPins)] := by decide

/-- V107: 0x00 after 0xD3 is the display offset, no COLLO 0; V104: 0x7F after 0x81 is the contrast, no STARTLINE 63. -/
theorem test_parameter_is_no_opcode :
    (let s := State.mirrorAt (receiving tiny [0x00#8] (.payload .command)) 1#3 0x5A#8
     cursor (step { s with ctl := { s.ctl with param := some .dispOffset } }) = some (1, 0x5A)) ∧
    (let s := receiving tiny [0x7F#8] (.payload .command)
     (after (step { s with ctl := { s.ctl with param := some .contrast } })).map
       (fun t => (t.ctl.settings.contrast, t.ctl.settings.startLine, t.ctl.param)) = some (0x7F#8, 0#6, none)) := by decide

/-- 20 R59: the commands without a given parameter count, and an unlisted byte (V106), end the mirror's meaning. -/
theorem test_uncounted_commands :
    [Instr.addrmode, .colrange, .pagerange, .scrollsetup26, .scrollsetup27, .scrollsetupV 1#2, .scrolloff, .scrollon, .vscrollarea,
     .precharge, .vcomh].map (fun i => (after (exec i (start tiny 0#3 0#8 false []))).map (fun t => t.ctl.meaning)) =
      List.replicate 11 (some false) ∧
    (after (step (receiving tiny [0xB8#8] (.payload .command)))).map (fun t => t.ctl.meaning) = some false := by decide

/-- V92: at the last column a Data byte is stored there and the column wraps inside the page. -/
theorem test_data_byte_wraps :
    (after (step (State.mirrorAt (receiving narrow [0x02#8] (.payload .data)) 0#3 7#8))).map
      (fun t => (t.ctl.gdd, t.ctl.page, t.ctl.col)) = some ([(7, 0x02#8)], 0#3, 0#8) := by decide

/-- 93 U3 (V83): a Data write that timed out in page 1 leaves page 0 as it was and makes the cells of page 1 unknown. -/
theorem test_lost_data_write :
    (let s := start { tiny with retryLimit := some 1 } 0#3 0#8 false []
     (after (step { s with ctl := { s.ctl with inbox := [.lost .data [1#8, 2#8, 3#8, 4#8] 1], page := 1#3, gdd := [(3, 0#8), (257, 5#8)] } })).map
       (fun t => t.ctl.gdd) = some [(3, 0#8)]) := by decide

/-- R145, R238: step 5 of INIT lost (V22's failing step), the mux ratio of step 1 stays applied; so does the COM scan when it is a
`Seek` that is lost, and no cell is forgotten. -/
theorem test_lost_command_write :
    (let s := start tiny 0#3 0#8 false []
     (after (step { s with ctl := { s.ctl with inbox := [.lost .command [0xC8#8] 2],
                                               settings := { s.ctl.settings with muxRatio := 0x3F#8, segRemap := 1#1 } } })).map
       (fun t => (t.ctl.settings.muxRatio, t.ctl.settings.segRemap)) = some (0x3F#8, 1#1)) ∧
    (let s := start tiny 0#3 0#8 false []
     (after (step { s with ctl := { s.ctl with inbox := [.lost .command [0xB1#8, 0x00#8, 0x10#8] 1], gdd := [(257, 5#8)],
                                               settings := { s.ctl.settings with comRemap := 1#1 } } })).map
       (fun t => (t.ctl.settings.comRemap, t.ctl.gdd)) = some (1#1, [(257, 5#8)])) := by decide

/-! ### Witnesses: states and operands that meet the hypotheses of each statement together, clause by clause -/

theorem nakAllowed_unbounded (n : Nat) : nakAllowed none n := fun _ h => nomatch h

theorem nakAllowed_below {n m : Nat} (h : n < m) : nakAllowed (some m) n := fun _ e => Option.some.inj e ▸ h

theorem allAllowed_unbounded (ns : List Nat) : ∀ n ∈ ns, nakAllowed none n := fun n _ => nakAllowed_unbounded n

/-- `start`, with requests to come, is a state of the invariant. -/
theorem start_inv {c : Config} {page : BitVec 3} {col : Byte} {sync : Bool} (as : List Attempt) (later : List Request)
    (hc : c.wf = true) (hr : sync = true → cursorInRange c page col = true) :
    State.Inv { start c page col sync as with host := later } where
  cfg_wf := hc
  addrMode_page := rfl
  synced_inRange := hr
  wire_wf := fun _ h => nomatch h
  pending := rfl
  inbox := rfl
  gdd_wf := rfl
  gdd_inRange := rfl
  void_unknown := fun h => nomatch h

/-- As `start_inv`, INIT done. -/
theorem start_done_inv {c : Config} {page : BitVec 3} {col : Byte} {sync : Bool} (as : List Attempt) (later : List Request)
    (hc : c.wf = true) (hr : sync = true → cursorInRange c page col = true) :
    State.Inv { start c page col sync as with initState := .done, host := later } where
  cfg_wf := hc
  addrMode_page := rfl
  synced_inRange := hr
  wire_wf := fun _ h => nomatch h
  pending := rfl
  inbox := rfl
  gdd_wf := rfl
  gdd_inRange := rfl
  void_unknown := fun h => nomatch h

/-- FRAME.D of one byte, its write pending after `naks` Naks. -/
def waiting (c : Config) (naks : Nat) (as : List Attempt) : State :=
  let s := start c 1#3 4#8 true as
  { s with seq := .running 0, callerBuf := [9#8], lat := { s.lat with op := .frameD, tag := .data, bufLen := 1 },
           tx := some { bytes := encodeBurst c.policy .data [9#8], naks := naks } }

theorem waiting_inv {c : Config} {naks : Nat} (as : List Attempt) (hc : c.wf = true) (hr : cursorInRange c 1#3 4#8 = true)
    (hm : 1 ≤ c.maxBurst) (hn : naksLegal c.retryLimit naks .ack = true) : (waiting c naks as).Inv where
  cfg_wf := hc
  addrMode_page := rfl
  synced_inRange := fun _ => hr
  wire_wf := fun _ h => nomatch h
  pending := ⟨.raw .data [9#8], _, rfl, rfl, by decide, hm, rfl, hn⟩
  inbox := rfl
  gdd_wf := rfl
  gdd_inRange := rfl
  void_unknown := fun h => nomatch h

/-- The last command bytes of two ranges, and a control byte. -/
theorem witness_DecodedWireByteIsItsEncoding :
    decode (.cmd 0xB7#8) = .ok (.pagestart 7#3) ∧ decode (.cmd 0x7F#8) = .ok (.startline 63#6) ∧
    decode (.ctrl 0xC0#8) = .ok .ctrlDataMore := ⟨rfl, rfl, rfl⟩

/-- The last pair of a burst. -/
theorem witness_EncodeTypeBit : 2 < [1#8, 2#8, 3#8].length := by decide

/-- The only pair of a burst of one, and the last but one of three. -/
theorem witness_EncodeContinuation : 0 < [0xAA#8].length ∧ 1 < [1#8, 2#8, 3#8].length := by decide

theorem witness_TransactionReadsBack : [0xAA#8] ≠ [] := by decide

/-- V30 and V31: four bytes against MAX_BURST 4, then five; and a `Seek` that strict mode accepts. -/
theorem witness_BurstSizeLimit :
    strictRejects strictRef 7 127 = false ∧ strictRejects tiny 9 200 = false ∧
    (Item.raw .data [1#8, 2#8, 3#8, 4#8]).payload.length ≤ { Config.reference with maxBurst := 4 }.maxBurst ∧
    { Config.reference with maxBurst := 4 }.maxBurst < (Item.raw .data [1#8, 2#8, 3#8, 4#8, 5#8]).payload.length := by decide

theorem witness_EmptyBurstSendsNothing : (Item.raw .data []).payload = [] := rfl

/-- V70 and V71: RETRY_LIMIT 3, two Naks before an Ack, three Naks. -/
theorem witness_TransportRetryLoop : (∀ m, some 3 = some m → 0 + 2 < m) ∧ 2 < 3 :=
  ⟨fun m h => by cases h; decide, by decide⟩

theorem witness_EndlessNakNeverEnds :
    let s := waiting Config.reference 5 (List.replicate 1 .nak)
    s.Inv ∧ s.ctl.inbox = [] ∧ s.seq = .running 0 ∧ s.cfg.retryLimit = none ∧ s.answers = List.replicate (0 + 1) .nak :=
  ⟨waiting_inv _ (by decide) (by decide) (by decide) rfl, rfl, rfl, rfl, rfl⟩

/-- One attempt of three left. -/
theorem witness_BoundedRetryTimesOut :
    let s := waiting (bounded 3) 2 [.nak]
    s.Inv ∧ s.ctl.inbox = [] ∧ s.seq = .running 0 ∧ s.cfg.retryLimit = some 3 ∧ s.answers = List.replicate (3 - 2) .nak ++ [] ∧
    (plan s.cfg s.lat s.callerBuf)[0]? = some (.raw .data [9#8]) :=
  ⟨waiting_inv _ (by decide) (by decide) (by decide) rfl, rfl, rfl, rfl, rfl, rfl⟩

theorem witness_RequestWaitsForItsFirstWrite :
    let s := start (bounded 3) 1#3 4#8 true [.nak, .nak]
    s.ready ∧ s.cfg.wf = true ∧ nakAllowed s.cfg.retryLimit 2 ∧ s.answers = List.replicate 2 .nak :=
  ⟨⟨rfl, rfl⟩, by decide, nakAllowed_below (by decide), rfl⟩

/-- The clauses: a burst of MAX_BURST bytes, the last cell, MAX_BURST 3 (2 for INIT), a WRITE of the last page in strict mode. -/
theorem witness_RequestWaitsForItsFirstWrite_clauses :
    ([1#8] ≠ [] ∧ [1#8].length ≤ { strictRef with maxBurst := 1 }.maxBurst) ∧
    (3 ≤ { strictRef with maxBurst := 3 }.maxBurst ∧ (7#8 : Byte).toNat < strictRef.pageCount ∧ (127#8 : Byte).toNat < strictRef.segCount) ∧
    2 ≤ { strictRef with maxBurst := 2 }.maxBurst ∧
    (1 ≤ (1#8 : Byte).toNat ∧ ((7#8 : Byte).toNat + (1#8 : Byte).toNat) * (1#8 : Byte).toNat ≤ (List.replicate 8 0#8).length) := by decide

/-- SEEK with one Nak decided, then the Ack. -/
theorem witness_OutcomesTogetherOrInPortions :
    let s := start Config.reference 1#3 4#8 true []
    s.seq = .idle ∧ ∃ t, exec (.seek 1#8 1#8) { s with answers := [.nak] } = .next t ∧ t.seq = .running 0 := ⟨rfl, _, rfl, rfl⟩

theorem witness_GetaddrAnswersAddress : (start Config.reference 1#3 4#8 true []).seq = .idle := rfl

theorem witness_ready (c : Config) (as : List Attempt) : (start c 1#3 4#8 true as).ready := ⟨rfl, rfl⟩

/-- FRAME.C and FRAME.D, too long by one; MAX_BURST bytes acknowledged after the most Naks allowed; RETRY_LIMIT 1 used up. -/
theorem witness_FrameCBehaviour :
    { tiny with maxBurst := 1 }.maxBurst < [1#8, 2#8].length ∧
    ([1#8] ≠ [] ∧ [1#8].length ≤ { tiny with maxBurst := 1 }.maxBurst) ∧ nakAllowed (bounded 3).retryLimit 2 ∧
    (start (bounded 3) 1#3 4#8 true [.nak, .nak, .ack]).answers = ackedAfter [2] [] ∧
    (1 ≤ 1 ∧ (bounded 1).retryLimit = some 1 ∧ (start (bounded 1) 1#3 4#8 true [.nak]).answers = List.replicate 1 .nak ++ []) :=
  ⟨by decide, by decide, nakAllowed_below (by decide), rfl, by decide, rfl, rfl⟩

/-- FRAME.D: as for FRAME.C, one byte and one row's worth. -/
theorem witness_FrameDBehaviour :
    nakAllowed (bounded 3).retryLimit 2 ∧ 4 < [1#8, 2#8, 3#8, 4#8, 5#8].length ∧
    ([1#8, 2#8, 3#8, 4#8] ≠ [] ∧ [1#8, 2#8, 3#8, 4#8].length ≤ { tiny with maxBurst := 4 }.maxBurst) ∧
    (start (bounded 3) 1#3 4#8 true [.nak, .nak, .ack]).answers = ackedAfter [2] [] ∧
    (start (bounded 1) 1#3 4#8 true [.nak]).answers = List.replicate 1 .nak ++ [] :=
  ⟨nakAllowed_below (by decide), by decide, by decide, rfl, rfl⟩

/-- SEEK: column 128 rejected in strict mode, column 127 of page 7 not; MAX_BURST 2 and 3. -/
theorem witness_SeekBehaviour :
    (strictRef.strict = true ∧ (strictRef.pageCount ≤ (0#8 : Byte).toNat ∨ strictRef.segCount ≤ (128#8 : Byte).toNat)) ∧
    ¬ (strictRef.strict = true ∧ (strictRef.pageCount ≤ (7#8 : Byte).toNat ∨ strictRef.segCount ≤ (127#8 : Byte).toNat)) ∧
    { strictRef with maxBurst := 2 }.maxBurst < 3 ∧ 3 ≤ { strictRef with maxBurst := 3 }.maxBurst ∧
    nakAllowed (bounded 3).retryLimit 2 ∧ (start (bounded 3) 1#3 4#8 true [.nak, .nak, .ack]).answers = ackedAfter [2] [] ∧
    (start (bounded 1) 1#3 4#8 true [.nak]).answers = List.replicate 1 .nak ++ [] :=
  ⟨by decide, by decide, by decide, by decide, nakAllowed_below (by decide), rfl, rfl⟩

theorem witness_SeekEmitsItsThreeBytes :
    let s := start { strictRef with maxBurst := 3 } 1#3 4#8 true [.ack]
    s.ready ∧ 3 ≤ s.cfg.maxBurst ∧
    (s.cfg.strict = true → (7#8 : Byte).toNat < s.cfg.pageCount ∧ (127#8 : Byte).toNat < s.cfg.segCount) ∧
    nakAllowed s.cfg.retryLimit 0 ∧ s.answers = ackedAfter [0] [] ∧ (7#8 : Byte).toNat ≤ 7 ∧ (127#8 : Byte).toNat ≤ 127 :=
  ⟨⟨rfl, rfl⟩, by decide, fun _ => by decide, nakAllowed_unbounded 0, rfl, by decide, by decide⟩

/-- INIT: MAX_BURST 1 and 2; twelve acknowledged writes, one of them after a Nak. -/
theorem witness_InitBehaviour :
    { tiny with maxBurst := 1 }.maxBurst < 2 ∧ 2 ≤ { tiny with maxBurst := 2 }.maxBurst ∧
    (1 :: List.replicate 11 0).length = 12 ∧ (∀ n ∈ 1 :: List.replicate 11 0, nakAllowed tiny.retryLimit n) ∧
    (start tiny 1#3 0#8 true (.nak :: acks 12)).answers = ackedAfter (1 :: List.replicate 11 0) [] :=
  ⟨by decide, by decide, rfl, allAllowed_unbounded _, rfl⟩

/-- V22: step 5 (index 4) fails under RETRY_LIMIT 2; and the first and last step could. -/
theorem witness_InitFailureIsFatal :
    let s := start (bounded 2) 1#3 4#8 true [.ack, .ack, .nak, .ack, .ack, .nak, .nak]
    s.ready ∧ 2 ≤ s.cfg.maxBurst ∧ (initStream s.cfg)[4]? = some [0xC8#8] ∧ [0, 0, 1, 0].length = 4 ∧ (∀ n ∈ [0, 0, 1, 0], n < 2) ∧
    1 ≤ 2 ∧ s.cfg.retryLimit = some 2 ∧ s.answers = ackedAfter [0, 0, 1, 0] (List.replicate 2 .nak ++ []) ∧
    (initStream s.cfg)[0]? = some [0xA8#8, 0x3F#8] ∧ (initStream s.cfg)[11]? = some [0xAF#8] :=
  ⟨⟨rfl, rfl⟩, by decide, rfl, rfl, by decide, by decide, rfl, rfl, rfl, rfl⟩

/-- Two INITs from different states and geometries. -/
theorem witness_InitReplaysTheSameBytes :
    let s := start Config.reference 1#3 4#8 true (acks 12)
    let s' := start tiny 0#3 0#8 false (.nak :: acks 12)
    s.cfg.policy = s'.cfg.policy ∧ initStream s.cfg = initStream s'.cfg ∧
    (∃ t, exec .init s = .next t ∧ t.seq = .idle ∧ t.rsp.code = .ok) ∧ (∃ t, exec .init s' = .next t ∧ t.seq = .idle ∧ t.rsp.code = .ok) :=
  ⟨rfl, rfl, ⟨_, rfl, rfl, rfl⟩, _, rfl, rfl, rfl⟩

/-- CLEAR acknowledged, MAX_BURST the width of the display; and MAX_BURST 2 (V82). -/
theorem witness_ClearBehaviour :
    let s := start { tiny with maxBurst := 4 } 0#3 0#8 false (acks 4)
    s.ready ∧ s.cfg.wf = true ∧ 3 ≤ s.cfg.maxBurst ∧ s.cfg.segCount ≤ s.cfg.maxBurst ∧ [0, 0, 0, 0].length = 2 * s.cfg.pageCount ∧
    (∀ n ∈ [0, 0, 0, 0], nakAllowed s.cfg.retryLimit n) ∧ s.answers = ackedAfter [0, 0, 0, 0] [] ∧
    ({ tiny with maxBurst := 2 }.maxBurst < 3 ∧ { tiny with maxBurst := 2 }.wf = true) :=
  ⟨⟨rfl, rfl⟩, by decide, by decide, by decide, rfl, allAllowed_unbounded _, rfl, by decide⟩

/-- V83: CLEAR's last burst (index 3) out of attempts under RETRY_LIMIT 1; its first could be. -/
theorem witness_ClearBehaviour_timeout :
    let s := start { tiny with retryLimit := some 1 } 0#3 0#8 false [.ack, .ack, .ack, .nak]
    s.ready ∧ s.cfg.wf = true ∧ 3 ≤ s.cfg.maxBurst ∧ s.cfg.segCount ≤ s.cfg.maxBurst ∧
    (clearBursts s.cfg)[3]? = some (.data, List.replicate 4 0#8) ∧ [0, 0, 0].length = 3 ∧ (∀ n ∈ [0, 0, 0], n < 1) ∧ 1 ≤ 1 ∧
    s.cfg.retryLimit = some 1 ∧ s.answers = ackedAfter [0, 0, 0] (List.replicate 1 .nak ++ []) ∧
    (clearBursts s.cfg)[0]? = some (.command, [0xB0#8, 0x00#8, 0x10#8]) :=
  ⟨⟨rfl, rfl⟩, by decide, by decide, by decide, by decide, rfl, by decide, by decide, rfl, rfl, by decide⟩

/-- MAX_BURST 3 against four columns, for CLEAR and for WRITE. -/
theorem witness_TooLargeDataBurstAfterOneSeek :
    let s := start { tiny with maxBurst := 3, strict := true } 0#3 0#8 false (acks 1)
    s.ready ∧ s.cfg.wf = true ∧ 3 ≤ s.cfg.maxBurst ∧ s.cfg.maxBurst < s.cfg.segCount ∧ nakAllowed s.cfg.retryLimit 0 ∧
    s.answers = ackedAfter [0] [] ∧ s.cfg.maxBurst < (4#8 : Byte).toNat ∧ 1 ≤ (1#8 : Byte).toNat ∧
    ((1#8 : Byte).toNat + (1#8 : Byte).toNat) * (4#8 : Byte).toNat ≤ (List.replicate 8 0#8).length ∧
    (s.cfg.strict = true → (1#8 : Byte).toNat < s.cfg.pageCount ∧ (3#8 : Byte).toNat < s.cfg.segCount) :=
  ⟨⟨rfl, rfl⟩, by decide, by decide, by decide, nakAllowed_unbounded 0, rfl, by decide, by decide, by decide, fun _ => by decide⟩

/-- The last page in strict mode, MAX_BURST columns; no page at all; and MAX_BURST 2. -/
theorem witness_WriteBehaviour :
    let s := start { tiny with maxBurst := 4, strict := true } 0#3 0#8 false (acks 2)
    s.ready ∧ 3 ≤ s.cfg.maxBurst ∧ (4#8 : Byte).toNat ≤ s.cfg.maxBurst ∧
    (Instr.write (List.replicate 8 7#8) 1#8 1#8 0#8 4#8).wf = true ∧
    (s.cfg.strict = true → (1#8 : Byte).toNat = 0 ∨
      ((1#8 : Byte).toNat + (1#8 : Byte).toNat ≤ s.cfg.pageCount ∧ (0#8 : Byte).toNat < s.cfg.segCount)) ∧
    [0, 0].length = (writeBursts (List.replicate 8 7#8) (List.range' 1 1) 0#8 4#8).length ∧
    (∀ n ∈ [0, 0], nakAllowed s.cfg.retryLimit n) ∧ s.answers = ackedAfter [0, 0] [] ∧
    (Instr.write [] 3#8 0#8 0#8 8#8).wf = true ∧ ({ tiny with maxBurst := 2 }.maxBurst < 3 ∧ 1 ≤ (1#8 : Byte).toNat) :=
  ⟨⟨rfl, rfl⟩, by decide, by decide, by decide, fun _ => by decide, by decide, allAllowed_unbounded _, rfl, by decide, by decide⟩

/-- WRITE of two pages in strict mode: the last Data burst (index 3) out of attempts; and without columns, the last `Seek`
(index 1). -/
theorem witness_WriteBehaviour_timeout :
    let s := start { tiny with maxBurst := 4, strict := true, retryLimit := some 2 } 0#3 0#8 false
      [.ack, .nak, .ack, .ack, .nak, .nak]
    s.ready ∧ 3 ≤ s.cfg.maxBurst ∧ (1#8 : Byte).toNat ≤ s.cfg.maxBurst ∧ (Instr.write [7#8, 8#8] 0#8 2#8 3#8 1#8).wf = true ∧
    (writeBursts [7#8, 8#8] (List.range' 0 2) 3#8 1#8)[3]? = some (.data, [8#8]) ∧
    (s.cfg.strict = true → 3 / 2 + 1 = 0 ∨ ((0#8 : Byte).toNat + (3 / 2 + 1) ≤ s.cfg.pageCount ∧ (3#8 : Byte).toNat < s.cfg.segCount)) ∧
    [0, 1, 0].length = 3 ∧ (∀ n ∈ [0, 1, 0], n < 2) ∧ 1 ≤ 2 ∧ s.cfg.retryLimit = some 2 ∧
    s.answers = ackedAfter [0, 1, 0] (List.replicate 2 .nak ++ []) ∧
    (writeBursts [] (List.range' 0 2) 3#8 0#8)[1]? = some (.command, [0xB1#8, 0x03#8, 0x10#8]) ∧
    (s.cfg.strict = true → 1 / 1 + 1 = 0 ∨ ((0#8 : Byte).toNat + (1 / 1 + 1) ≤ s.cfg.pageCount ∧ (3#8 : Byte).toNat < s.cfg.segCount)) :=
  ⟨⟨rfl, rfl⟩, by decide, by decide, by decide, by decide, fun _ => by decide, rfl, by decide, by decide, rfl, rfl, by decide,
    fun _ => by decide⟩

/-- Two pages from the last one on: one is written, the next stops it; and a start column at SEG_COUNT. -/
theorem witness_StrictWriteStopsAtTheGeometry :
    let s := start { tiny with maxBurst := 4, strict := true } 0#3 0#8 false (acks 2)
    s.ready ∧ s.cfg.strict = true ∧ 3 ≤ s.cfg.maxBurst ∧ (4#8 : Byte).toNat ≤ s.cfg.maxBurst ∧ 1 ≤ (2#8 : Byte).toNat ∧
    ((1#8 : Byte).toNat + (2#8 : Byte).toNat) * (4#8 : Byte).toNat ≤ (List.replicate 12 7#8).length ∧
    s.cfg.segCount ≤ (4#8 : Byte).toNat ∧ (3#8 : Byte).toNat < s.cfg.segCount ∧
    s.cfg.pageCount < (1#8 : Byte).toNat + (2#8 : Byte).toNat ∧
    [0, 0].length = (writeBursts (List.replicate 12 7#8) (List.range' 1 (s.cfg.pageCount - 1)) 3#8 4#8).length ∧
    (∀ n ∈ [0, 0], nakAllowed s.cfg.retryLimit n) ∧ s.answers = ackedAfter [0, 0] [] :=
  ⟨⟨rfl, rfl⟩, rfl, by decide, by decide, by decide, by decide, by decide, by decide, by decide, by decide, allAllowed_unbounded _, rfl⟩

/-- V98: one byte short. -/
theorem witness_ShortBufferRefused :
    (start Config.reference 1#3 4#8 true []).seq = .idle ∧ 1 ≤ (2#8 : Byte).toNat ∧
    [1#8, 2#8, 3#8].length < ((0#8 : Byte).toNat + (2#8 : Byte).toNat) * (2#8 : Byte).toNat := by decide

theorem witness_ReservedSelectorsAnswered : (start Config.reference 1#3 4#8 true []).seq = .idle := rfl

theorem witness_RequestWhileRunningRefused :
    (waiting Config.reference 0 []).seq = .running 0 ∧ decode (.req { sel := 0xF#4 }) = .ok (.reserved8F 7#3) ∧
    decode (.req { sel := 0x0#4 }) = .ok (.getaddr 0#1) := ⟨rfl, rfl, rfl⟩

theorem witness_CursorCommandsMoveTheMirror : (start tiny 0#3 0xFF#8 false []).ctl.meaning = true := rfl

theorem witness_SettingCommandsLeaveTheMirror : (start tiny 0#3 0#8 false []).ctl.meaning = true := rfl

theorem witness_ParameterCommandsAwaitTheirByte : (start tiny 0#3 0#8 false []).ctl.meaning = true := rfl

/-- A parameter byte that would read as COLLO 0. -/
theorem witness_ParameterByteSkipped :
    let r := receiving tiny [0x00#8] (.payload .command)
    let s : State := { r with ctl := { r.ctl with param := some .dispOffset } }
    s.ctl.inbox = [.frame [0x00#8]] ∧ s.ctl.expect = .payload .command ∧ s.ctl.param = some .dispOffset ∧ s.ctl.meaning = true := by
  decide

theorem witness_UncountedCommandsVoidTheMirror : ∃ v, Instr.scrollsetupV 3#2 = .scrollsetupV v := ⟨_, rfl⟩

theorem witness_UnlistedCommandVoidsTheMirror :
    (receiving tiny [0xB8#8] (.payload .command)).ctl.inbox = [.frame [0xB8#8]] ∧
    (receiving tiny [0xB8#8] (.payload .command)).ctl.expect = .payload .command ∧
    (receiving tiny [0xB8#8] (.payload .command)).ctl.param = none ∧ ∀ i, decode (.cmd 0xB8#8) ≠ .ok i :=
  ⟨rfl, rfl, rfl, fun _ h => nomatch h⟩

/-- A mirror without a meaning before a command byte, a Data byte and a timed-out write; and a Data write that timed out with the
column at SEG_COUNT. -/
theorem witness_VoidMirrorTakesItsBytes :
    (voidMirror (start tiny 0#3 0#8 false [])).ctl.meaning = false ∧ decode (.cmd 0xE3#8) = .ok .nop ∧
    ((voidMirror (receiving tiny [5#8] (.payload .data))).ctl.inbox = [.frame [5#8]] ∧
      (voidMirror (receiving tiny [5#8] (.payload .data))).ctl.expect = .payload .data) ∧
    (let s := State.mirrorAt (start tiny 0#3 0#8 false []) 0#3 4#8
     { s with ctl := { s.ctl with inbox := [.lost .data [5#8] 1] } }.ctl.inbox = [.lost .data [5#8] 1] ∧
       s.cfg.segCount ≤ s.ctl.col.toNat) := ⟨rfl, rfl, ⟨rfl, rfl⟩, rfl, by decide⟩

theorem witness_VoidMirrorStaysVoid :
    ∃ t, step (voidMirror (receiving tiny [0x80#8] .control)) = .next t ∧
      (voidMirror (receiving tiny [0x80#8] .control)).ctl.meaning = false := ⟨_, rfl, rfl⟩

/-- The last cell of the geometry. -/
theorem witness_DataByteStoredAtTheCursor :
    let s := State.mirrorAt (receiving tiny [5#8] (.payload .data)) 1#3 3#8
    s.ctl.inbox = [.frame [5#8]] ∧ s.ctl.expect = .payload .data ∧ s.ctl.meaning = true ∧ s.ctl.page.toNat < s.cfg.pageCount ∧
    s.ctl.col.toNat < s.cfg.segCount := by decide

/-- The first page and the first column outside it. -/
theorem witness_DataByteOutOfRangeVoids :
    (let s := State.mirrorAt (receiving tiny [5#8] (.payload .data)) 2#3 0#8
     s.ctl.inbox = [.frame [5#8]] ∧ s.ctl.expect = .payload .data ∧ s.cfg.pageCount ≤ s.ctl.page.toNat) ∧
    (let s := State.mirrorAt (receiving tiny [5#8] (.payload .data)) 0#3 4#8
     s.ctl.inbox = [.frame [5#8]] ∧ s.ctl.expect = .payload .data ∧ s.cfg.segCount ≤ s.ctl.col.toNat) := by decide

/-- A Data write lost at column 3: the cell at column 3 is within reach, the one at column 2 is not. A step of INIT lost at a
column outside the geometry. -/
theorem witness_LostWriteForgetsTheCursor :
    (let r := State.mirrorAt (start tiny 0#3 0#8 false []) 1#3 3#8
     let s : State := { r with ctl := { r.ctl with inbox := [.lost .data [5#8] 3], gdd := [(258, 7#8), (259, 8#8)] } }
     s.ctl.inbox = [.lost .data [5#8] 3] ∧ s.ctl.meaning = true ∧ s.cfg.wf = true ∧ s.ctl.page.toNat < s.cfg.pageCount ∧
     s.ctl.col.toNat < s.cfg.segCount ∧ Memory.wf s.ctl.gdd = true ∧
     (3 + s.cfg.segCount - s.ctl.col.toNat) % s.cfg.segCount < [5#8].length * 3 ∧
     ¬ (2 + s.cfg.segCount - s.ctl.col.toNat) % s.cfg.segCount < [5#8].length * 3) ∧
    (let r := State.mirrorAt (start tiny 0#3 0#8 false []) 1#3 4#8
     let s : State := { r with ctl := { r.ctl with inbox := [.lost .command [0xC8#8] 2] } }
     s.ctl.meaning = true ∧ s.ctl.inbox = [.lost .command [0xC8#8] 2] ∧ s.ctl.param = none ∧ [0xC8#8] ∈ initStream s.cfg ∧
     [0xC8#8].head? ≠ some 0xA8#8 ∧ s.cfg.segCount ≤ s.ctl.col.toNat) := by decide

theorem witness_StepRunsTheDecodedInstruction :
    (let s : State := { start tiny 0#3 0#8 false [] with host := [{ sel := 0xF#4 }] }
     s.ctl.inbox = [] ∧ s.seq = .idle ∧ s.host = [{ sel := 0xF#4 }]) ∧ decode (.req { sel := 0xF#4 }) = .ok (.reserved8F 7#3) ∧
    ((receiving tiny [0xC0#8, 5#8] .control).ctl.inbox = [.frame [0xC0#8, 5#8]] ∧
      (receiving tiny [0xC0#8, 5#8] .control).ctl.expect = .control ∧ decode (.ctrl 0xC0#8) = .ok .ctrlDataMore) ∧
    ((receiving tiny [0xB7#8] (.payload .command)).ctl.inbox = [.frame [0xB7#8]] ∧
      (receiving tiny [0xB7#8] (.payload .command)).ctl.param = none ∧ decode (.cmd 0xB7#8) = .ok (.pagestart 7#3)) :=
  ⟨⟨rfl, rfl, rfl⟩, rfl, ⟨rfl, rfl, rfl⟩, rfl, rfl, rfl⟩

/-- The smallest and the largest geometry. -/
theorem witness_ConstructionMeetsInvariant :
    { tiny with pageCount := 1, segCount := 1, retryLimit := some 1 }.wf = true ∧
    { tiny with pageCount := 8, segCount := 256 }.wf = true := by decide

theorem witness_StepKeepsInvariant :
    let s : State := { start tiny 1#3 3#8 true (acks 1) with host := [{ sel := 0x2#4, buf := [5#8] }] }
    s.Inv ∧ ∃ t, step s = .next t := ⟨start_inv _ _ (by decide) (fun _ => by decide), _, rfl⟩

theorem witness_StepAnswersUnlessShortWrite :
    State.Inv { start tiny 1#3 3#8 true [] with host := [{ sel := 0x6#4, pageSpan := 2#8, columnSpan := 2#8, buf := [1#8, 2#8, 3#8] }] } :=
  start_inv _ _ (by decide) (fun _ => by decide)

theorem witness_ConfigurationNeverChanges : ∃ t, step (receiving tiny [0x80#8] .control) = .next t := ⟨_, rfl⟩

/-- V22's second INIT, and a pending write, with the flag Failed. -/
theorem witness_FailedInitializationIsSticky :
    let s : State := { start Config.reference 1#3 4#8 true (acks 12) with initState := .failed, host := [{ sel := 0x4#4 }] }
    (∃ t, step s = .next t ∧ t.rsp.code = .ok) ∧ s.initState = .failed := ⟨⟨_, rfl, rfl⟩, rfl⟩

theorem witness_OnlyInitWritesInitState :
    let s : State := { start Config.reference 1#3 4#8 true (acks 12) with host := [{ sel := 0x4#4 }] }
    ∃ t, step s = .next t ∧ t.initState ≠ s.initState := ⟨_, rfl, by decide⟩

theorem witness_OnlySeekSetsSynced :
    let s : State := { start tiny 1#3 3#8 false (acks 1) with host := [{ sel := 0x3#4, page := 1#8, column := 3#8 }] }
    s.synced = false ∧ ∃ t, step s = .next t ∧ t.synced = true := ⟨rfl, _, rfl, rfl⟩

/-- The code left from reset, and a step that does not touch it. -/
theorem witness_BusNakNeverAnswered :
    let s : State := { receiving tiny [0x80#8] .control with rsp := { code := .busNak, info := .none } }
    ∃ t, step s = .next t ∧ t.rsp.code = .busNak := ⟨_, rfl, rfl⟩

theorem witness_ResponseEndsTheOperation :
    let s := waiting (bounded 3) 2 [.nak]
    ∃ t, step s = .next t ∧ t.rsp ≠ s.rsp := ⟨_, rfl, by decide⟩

theorem witness_WireOnlyGrows : ∃ t, step (waiting Config.reference 0 [.ack]) = .next t := ⟨_, rfl⟩

theorem witness_WireIndependentOfBookkeeping :
    (∃ t, exec (.seek 7#8 127#8) (start strictRef 1#3 4#8 true (acks 1)) = .next t ∧ t.wire ≠ []) ∧
    ∃ t, step (waiting Config.reference 1 [.ack]) = .next t ∧ t.wire ≠ [] := ⟨⟨_, rfl, by decide⟩, _, rfl, by decide⟩

theorem witness_RequestsReadNothingOfTheController :
    decode (.req { sel := 0x2#4, buf := [5#8] }) = .ok (.frameD [5#8]) ∧
    ∃ t, exec (.frameD [5#8]) (start tiny 1#3 3#8 true (acks 1)) = .next t ∧ t.ctl.inbox ≠ [] := ⟨rfl, _, rfl, by decide⟩

theorem witness_WireBytesChangeOnlyTheController :
    decode (.cmd 0xB7#8) = .ok (.pagestart 7#3) ∧ decode (.ctrl 0xC0#8) = .ok .ctrlDataMore ∧
    (∃ t, exec (.pagestart 7#3) (start tiny 0#3 0#8 false []) = .next t) ∧
    ∃ t, exec .ctrlDataMore (start tiny 0#3 0#8 false []) = .next t := ⟨rfl, rfl, ⟨_, rfl⟩, _, rfl⟩

/-- SEEK to the last cell, then one byte there; the Data write acknowledged after one Nak. -/
theorem witness_SoughtByteLandsAtTheCursor :
    let s : State := { start { tiny with maxBurst := 3, retryLimit := some 2 } 0#3 0#8 false [.ack, .nak, .ack] with
      initState := .done, host := [{ sel := 0x3#4, page := 1#8, column := 3#8 }, { sel := 0x2#4, buf := [5#8] }] }
    s.Inv ∧ s.initState = .done ∧ s.ready ∧ s.receiverReady ∧ 3 ≤ s.cfg.maxBurst ∧ (1#8 : Byte).toNat < s.cfg.pageCount ∧
    (3#8 : Byte).toNat < s.cfg.segCount ∧ nakAllowed s.cfg.retryLimit 0 ∧ nakAllowed s.cfg.retryLimit 1 ∧
    s.answers = ackedAfter [0, 1] [] :=
  ⟨start_done_inv _ _ (by decide) (fun h => nomatch h), rfl, ⟨rfl, rfl⟩, ⟨rfl, rfl, rfl, rfl⟩, by decide, by decide, by decide,
    nakAllowed_below (by decide), nakAllowed_below (by decide), rfl⟩

/-- From a state that has not failed; and V22's second INIT, from one that has. -/
theorem witness_InitLeavesCursorAndDisplay :
    let s : State := { start { tiny with maxBurst := 2 } 1#3 3#8 true (acks 12) with host := [{ sel := 0x4#4 }] }
    s.Inv ∧ s.ready ∧ s.receiverReady ∧ 2 ≤ s.cfg.maxBurst ∧ (List.replicate 12 0).length = 12 ∧
    (∀ n ∈ List.replicate 12 0, nakAllowed s.cfg.retryLimit n) ∧ s.answers = ackedAfter (List.replicate 12 0) [] ∧
    s.initState ≠ .failed ∧ { s with initState := .failed }.initState = .failed :=
  ⟨start_inv _ _ (by decide) (fun _ => by decide), ⟨rfl, rfl⟩, ⟨rfl, rfl, rfl, rfl⟩, by decide, rfl, allAllowed_unbounded _, rfl,
    by decide, rfl⟩

theorem witness_ClearBlanksTheDisplay :
    let s : State := { start { tiny with maxBurst := 4 } 1#3 3#8 true (acks 4) with initState := .done, host := [{ sel := 0x5#4 }] }
    s.Inv ∧ s.initState = .done ∧ s.ready ∧ s.receiverReady ∧ 3 ≤ s.cfg.maxBurst ∧ s.cfg.segCount ≤ s.cfg.maxBurst ∧
    [0, 0, 0, 0].length = 2 * s.cfg.pageCount ∧ (∀ n ∈ [0, 0, 0, 0], nakAllowed s.cfg.retryLimit n) ∧
    s.answers = ackedAfter [0, 0, 0, 0] [] :=
  ⟨start_done_inv _ _ (by decide) (fun _ => by decide), rfl, ⟨rfl, rfl⟩, ⟨rfl, rfl, rfl, rfl⟩, by decide, by decide, rfl, allAllowed_unbounded _,
    rfl⟩

/-- The last page, the last two columns. -/
theorem witness_WrittenRectangleLands :
    let r : Request := { sel := 0x6#4, startPage := 1#8, pageSpan := 1#8, startColumn := 2#8, columnSpan := 2#8, buf := [1#8, 2#8, 3#8, 4#8] }
    let s : State := { start { tiny with maxBurst := 3 } 1#3 3#8 true (acks 2) with initState := .done, host := [r] }
    s.Inv ∧ s.initState = .done ∧ s.ready ∧ s.receiverReady ∧ 3 ≤ s.cfg.maxBurst ∧ (2#8 : Byte).toNat ≤ s.cfg.maxBurst ∧ 1 ≤ (1#8 : Byte).toNat ∧
    1 ≤ (2#8 : Byte).toNat ∧ (1#8 : Byte).toNat + (1#8 : Byte).toNat ≤ s.cfg.pageCount ∧
    (2#8 : Byte).toNat + (2#8 : Byte).toNat ≤ s.cfg.segCount ∧
    ((1#8 : Byte).toNat + (1#8 : Byte).toNat) * (2#8 : Byte).toNat ≤ r.buf.length ∧ [0, 0].length = 2 * (1#8 : Byte).toNat ∧
    (∀ n ∈ [0, 0], nakAllowed s.cfg.retryLimit n) ∧ s.answers = ackedAfter [0, 0] [] :=
  ⟨start_done_inv _ _ (by decide) (fun _ => by decide), rfl, ⟨rfl, rfl⟩, ⟨rfl, rfl, rfl, rfl⟩, by decide, by decide, by decide, by decide, by decide,
    by decide, by decide, rfl, allAllowed_unbounded _, rfl⟩

end Sys2Proof.Tests
end

section
/-! PROOF. What the control bytes of an encoded burst are (spec 40 R100), and the obligation on their continuation flag. -/
namespace Sys2Proof.Machine

/-- Bit 7 of a control byte is its continuation flag (spec 30 R82). -/
theorem ctrlByte_bit7 (cont : Bool) (tag : Tag) : (ctrlByte cont tag).getLsbD 7 = cont := by
  cases cont <;> cases tag <;> rfl

theorem contFlag_noContinue (i n : Nat) : contFlag .noContinue i n = false := rfl

/-- The model's `i < n - 1` without the truncated subtraction. -/
theorem contFlag_lastTerminates (i n : Nat) : contFlag .lastTerminates i n = decide (i + 1 < n) :=
  decide_eq_decide.mpr Nat.lt_sub_iff_add_lt

/-- The loop of Encode entered at pair `start` of `n`: its `i`-th control byte is that of pair `start + i`. -/
theorem encodePairs_getElem?_control (policy : Policy) (tag : Tag) (n : Nat) {start i : Nat} {bytes : List Byte}
    (hi : i < bytes.length) :
    (encodePairs policy tag n start bytes)[2 * i]? = some (ctrlByte (contFlag policy (start + i) n) tag) := by
  induction bytes generalizing start i with
  | nil => exact absurd hi (Nat.not_lt_zero i)
  | cons b bs ih =>
    cases i with
    | zero => rfl
    | succ k =>
      have hk : k < bs.length := Nat.lt_of_succ_lt_succ hi
      calc (encodePairs policy tag n start (b :: bs))[2 * (k + 1)]?
          = (encodePairs policy tag n (start + 1) bs)[2 * k]? := rfl
        _ = some (ctrlByte (contFlag policy (start + 1 + k) n) tag) := ih hk
        _ = some (ctrlByte (contFlag policy (start + (k + 1)) n) tag) := by rw [Nat.add_right_comm, Nat.add_assoc]

/-- The control byte of pair `i` of a burst carries the flag of pair `i` of `N` and the burst's tag. -/
theorem encodeBurst_getElem?_control (policy : Policy) (tag : Tag) {i : Nat} {bytes : List Byte} (hi : i < bytes.length) :
    (encodeBurst policy tag bytes)[2 * i]? = some (ctrlByte (contFlag policy i bytes.length) tag) := by
  simpa [encodeBurst] using encodePairs_getElem?_control policy tag bytes.length (start := 0) hi

/-- Settles O6: the control byte of pair `i` is known, and its bit 7 is the flag of the policy. -/
theorem encodeContinuation : Obligations.EncodeContinuation := by
  intro tag bytes i hi
  constructor
  · exact ⟨_, encodeBurst_getElem?_control .noContinue tag hi, by rw [ctrlByte_bit7, contFlag_noContinue]⟩
  · exact ⟨_, encodeBurst_getElem?_control .lastTerminates tag hi, by rw [ctrlByte_bit7, contFlag_lastTerminates]⟩

end Sys2Proof.Machine
end

section
/-! PROOF. The length of an encoded burst and the place of its payload bytes (spec 40 R101), and the type bit of its control
bytes (R102). -/
namespace Sys2Proof.Machine

/-- Bit 6 of a control byte is its type bit, set for Data (spec 30 R82). -/
theorem ctrlByte_bit6 (cont : Bool) (tag : Tag) : (ctrlByte cont tag).getLsbD 6 = decide (tag = .data) := by
  cases cont <;> cases tag <;> rfl

theorem encodePairs_length (policy : Policy) (tag : Tag) (n start : Nat) (bytes : List Byte) :
    (encodePairs policy tag n start bytes).length = 2 * bytes.length := by
  induction bytes generalizing start with
  | nil => rfl
  | cons b bs ih =>
    calc (encodePairs policy tag n start (b :: bs)).length
        = (encodePairs policy tag n (start + 1) bs).length + 2 := rfl
      _ = 2 * (b :: bs).length := by rw [ih, List.length_cons, Nat.mul_succ]

/-- Past the end of the burst both sides are `none`. -/
theorem encodePairs_getElem?_payload (policy : Policy) (tag : Tag) (n start i : Nat) (bytes : List Byte) :
    (encodePairs policy tag n start bytes)[2 * i + 1]? = bytes[i]? := by
  induction bytes generalizing start i with
  | nil => rfl
  | cons b bs ih =>
    cases i with
    | zero => rfl
    | succ k => exact ih (start + 1) k

/-- Settles O4: both laws hold of the loop of Encode from any pair on, so of the loop from pair 0. -/
theorem encodeLengthAndPayload : Obligations.EncodeLengthAndPayload := by
  intro policy tag bytes
  exact ⟨encodePairs_length policy tag bytes.length 0 bytes,
    fun i => encodePairs_getElem?_payload policy tag bytes.length 0 i bytes⟩

/-- Settles O5: the control byte of pair `i` is known, and whatever its flag, its bits 6:0 are the tag and zeros. -/
theorem encodeTypeBit : Obligations.EncodeTypeBit := by
  intro policy tag bytes i hi
  exact ⟨_, encodeBurst_getElem?_control policy tag hi, ctrlByte_bit6 _ tag, ctrlByte_low _ tag⟩

end Sys2Proof.Machine
end

section
/-! PROOF. An acknowledged burst from the item to its wire entry (spec 40 R107, R108), what a reader of the wire gets back from an
encoded burst (spec 30 R93), and the bytes of an acknowledged SEEK (spec 41 R121). -/
namespace Sys2Proof.Machine

/-! ### Attempts and bursts on a bus that answers -/

theorem ackedAfter_cons (n : Nat) (ns : List Nat) (rest : List Attempt) :
    ackedAfter (n :: ns) rest = List.replicate n .nak ++ .ack :: ackedAfter ns rest := by
  simp [ackedAfter]

/-- Naks that stay below RETRY_LIMIT are counted, then the Ack ends the write. -/
theorem attempts_replicate_nak_ack {limit : Option Nat} {k n : Nat} (h : nakAllowed limit (k + n)) (rest : List Attempt) :
    attempts limit k (List.replicate n .nak ++ .ack :: rest) = .acked (k + n) rest := by
  induction n generalizing k with
  | zero => rfl
  | succ n ih =>
    have hlimit : limit ≠ some (k + 1) := fun hl => by have := h _ hl; omega
    have hnext : attempts limit (k + 1) (List.replicate n .nak ++ .ack :: rest) = .acked (k + (n + 1)) rest := by
      rw [ih (by rwa [Nat.add_right_comm]), Nat.add_right_comm, Nat.add_assoc]
    simpa [List.replicate_succ, attempts, hlimit] using hnext

/-- DPF's state after the acknowledged write of an item's burst, before the next item of the list (spec 40 R108). -/
def Item.acked (it : Item) (n : Nat) (rest : List Attempt) (s : State) : State :=
  let bytes := encodeBurst s.cfg.policy it.tag it.payload
  it.onAck (record bytes n .ack (.frame bytes) { s with tx := none, answers := rest })

/-- An acknowledged burst adds its entry to the wire history, whatever item it belongs to. -/
theorem Item.acked_wire (it : Item) (n : Nat) (rest : List Attempt) (s : State) :
    (it.acked n rest s).wire = s.wire ++ [ackedEntry s.cfg (it.tag, it.payload) n] := by
  simp [Item.acked, ackedEntry]

/-- Starting an item that passes the checks, on a bus that answers its write: of the four cases only the write remains. -/
theorem startItem_acked {it : Item} {s : State} {n : Nat} {ns : List Nat} {rest : List Attempt}
    (hstrict : ∀ page column, it = .seek page column → strictRejects s.cfg page column = false)
    (hsize : it.payload.length ≤ s.cfg.maxBurst) (hne : it.payload ≠ []) (hn : nakAllowed s.cfg.retryLimit n)
    (ha : s.answers = ackedAfter (n :: ns) rest) : startItem it s = .done (it.acked n (ackedAfter ns rest) s) := by
  have hattempts : attempts s.cfg.retryLimit 0 s.answers = .acked n (ackedAfter ns rest) := by
    rw [ha, ackedAfter_cons, attempts_replicate_nak_ack (by rwa [Nat.zero_add]), Nat.zero_add]
  rcases startItem_cases it s with ⟨page, column, hit, hr, -⟩ | ⟨-, ⟨hbig, -⟩ | ⟨-, hnil, -⟩ | ⟨-, -, hstart⟩⟩
  · exact absurd hr (by simp [hstrict page column hit])
  · exact absurd hsize (Nat.not_le_of_lt hbig)
  · exact absurd hnil hne
  · simp [hstart, transmit, hattempts, Item.acked]

/-- A burst list of one item that is acknowledged adds exactly the entry of its burst to the wire history. -/
theorem runItems_singleton_acked_wire {it : Item} {s : State} {n : Nat} {rest : List Attempt}
    (hstrict : ∀ page column, it = .seek page column → strictRejects s.cfg page column = false)
    (hsize : it.payload.length ≤ s.cfg.maxBurst) (hne : it.payload ≠ []) (hn : nakAllowed s.cfg.retryLimit n)
    (ha : s.answers = ackedAfter [n] rest) :
    (runItems [it] s).wire = s.wire ++ [ackedEntry s.cfg (it.tag, it.payload) n] := by
  have hstart : startItem it s = .done (it.acked n rest s) := startItem_acked hstrict hsize hne hn ha
  calc (runItems [it] s).wire = (it.acked n rest s).wire := by simp [runItems, hstart]
    _ = s.wire ++ [ackedEntry s.cfg (it.tag, it.payload) n] := it.acked_wire n rest s

/-! ### Reading a transaction back -/

theorem txnPayload_encodePairs (policy : Policy) (tag : Tag) (n i : Nat) (bytes : List Byte) :
    txnPayload (encodePairs policy tag n i bytes) = some bytes := by
  induction bytes generalizing i with
  | nil => rfl
  | cons b bs ih => simp [encodePairs, txnPayload, ih]

theorem txnPayload_encodeBurst (policy : Policy) (tag : Tag) (bytes : List Byte) :
    txnPayload (encodeBurst policy tag bytes) = some bytes :=
  txnPayload_encodePairs policy tag bytes.length 0 bytes

theorem txnTag_encodeBurst (policy : Policy) (tag : Tag) {bytes : List Byte} (h : bytes ≠ []) :
    txnTag (encodeBurst policy tag bytes) = some tag := by
  cases bytes with
  | nil => exact absurd rfl h
  | cons b bs =>
    calc txnTag (encodeBurst policy tag (b :: bs))
        = some (if (ctrlByte (contFlag policy 0 (b :: bs).length) tag).getLsbD 6 then .data else .command) := rfl
      _ = some tag := by rw [ctrlByte_bit6]; cases tag <;> rfl

/-! ### The bytes of a Seek -/

/-- The strict check passes operands inside the geometry, and without strict mode all (spec 41 R124). -/
theorem strictRejects_eq_false {c : Config} {page column : Nat}
    (h : c.strict = true → page < c.pageCount ∧ column < c.segCount) : strictRejects c page column = false := by
  cases hs : c.strict with
  | false => simp [strictRejects, hs]
  | true => simpa [strictRejects, hs] using h hs

/-- The bytes of a `Seek` with byte operands, computed on the bytes themselves. -/
theorem seekBytes_toNat (page column : Byte) :
    seekBytes page.toNat column.toNat =
      [0xB0#8 ||| (page &&& 0x07#8), 0x00#8 ||| (column &&& 0x0F#8), 0x10#8 ||| ((column >>> 4) &&& 0x0F#8)] := by
  have hpage : BitVec.ofNat 8 (page.toNat &&& 0x07) = page &&& 0x07#8 := by simp [BitVec.ofNat_and]
  have hlow : BitVec.ofNat 8 (column.toNat &&& 0x0F) = column &&& 0x0F#8 := by simp [BitVec.ofNat_and]
  have hhigh : BitVec.ofNat 8 (column.toNat >>> 4 &&& 0x0F) = column >>> 4 &&& 0x0F#8 := by
    rw [BitVec.ofNat_and, ← BitVec.toNat_ushiftRight, BitVec.ofNat_toNat, BitVec.setWidth_eq]
  rw [seekBytes, hpage, hlow, hhigh]

/-- A page number of three bits is its own mask. -/
theorem and_seven_of_le {page : Byte} (h : page.toNat ≤ 7) : page &&& 0x07#8 = page := by
  apply BitVec.eq_of_toNat_eq
  rw [BitVec.toNat_and]
  exact (Nat.and_two_pow_sub_one_eq_mod _ 3).trans (Nat.mod_eq_of_lt (Nat.lt_succ_of_le h))

/-- The upper nibble of a byte fits the four bits the mask keeps. -/
theorem ushiftRight_four_and (column : Byte) : column >>> 4 &&& 0x0F#8 = column >>> 4 := by
  apply BitVec.eq_of_toNat_eq
  rw [BitVec.toNat_and]
  refine (Nat.and_two_pow_sub_one_eq_mod _ 4).trans (Nat.mod_eq_of_lt ?_)
  have := column.isLt
  rw [BitVec.toNat_ushiftRight, Nat.shiftRight_eq_div_pow]
  omega

/-- SEEK on an idle instance latches its operands and runs its one `Seek` (spec 41 R120). -/
theorem exec_seek_of_idle {s : State} (hidle : s.seq = .idle) (page column : Byte) :
    exec (.seek page column) s = .next (runItems [.seek page.toNat column.toNat]
      { s with lat := { s.lat with op := .seek, page := page, column := column }, seq := .running 0 }) :=
  if_pos hidle

/-- An acknowledged SEEK sends one burst, its three bytes under the Command tag. -/
theorem exec_seek_acked_wire {page column : Byte} {s : State} {n : Nat} {rest : List Attempt} (hidle : s.seq = .idle)
    (hsize : 3 ≤ s.cfg.maxBurst)
    (hstrict : s.cfg.strict = true → page.toNat < s.cfg.pageCount ∧ column.toNat < s.cfg.segCount)
    (hn : nakAllowed s.cfg.retryLimit n) (ha : s.answers = ackedAfter [n] rest) :
    ∃ t, exec (.seek page column) s = .next t ∧
      t.wire = s.wire ++ [ackedEntry s.cfg (.command, seekBytes page.toNat column.toNat) n] :=
  ⟨_, exec_seek_of_idle hidle page column,
    runItems_singleton_acked_wire (fun _ _ h => by cases h; exact strictRejects_eq_false hstrict) hsize
      (List.cons_ne_nil _ _) hn ha⟩

/-- Settles O19: the one entry an acknowledged SEEK adds to the wire reads back as its tag and its three bytes. -/
theorem seekEmitsItsThreeBytes : Obligations.SeekEmitsItsThreeBytes := by
  rintro page column s n rest ⟨hidle, -⟩ hsize hstrict hn ha
  obtain ⟨t, hexec, hwire⟩ := exec_seek_acked_wire hidle hsize hstrict hn ha
  refine ⟨t, _, hexec, hwire, ?_, ?_, fun hp _ => ?_⟩
  · rw [List.forall_mem_singleton]
    exact txnTag_encodeBurst s.cfg.policy .command (List.cons_ne_nil _ _)
  · simp [ackedEntry, txnPayload_encodeBurst, seekBytes_toNat]
  · simp [ackedEntry, txnPayload_encodeBurst, seekBytes_toNat, and_seven_of_le hp, ushiftRight_four_and]

end Sys2Proof.Machine
end

section
/-! PROOF. What an operation that answers Ok has put on the wire, and that every INIT that answers Ok sends the same bytes (spec 42
R144). -/
namespace Sys2Proof.Machine

/-! ### A burst list that runs to Ok -/

@[simp] theorem Item.acked_cfg (it : Item) (n : Nat) (rest : List Attempt) (s : State) : (it.acked n rest s).cfg = s.cfg := by
  simp [Item.acked]

@[simp] theorem Item.acked_seq (it : Item) (n : Nat) (rest : List Attempt) (s : State) : (it.acked n rest s).seq = s.seq := by
  simp [Item.acked]

theorem nextBurst_seq_ne_idle {s : State} (h : s.seq ≠ .idle) : (nextBurst s).seq ≠ .idle := by
  rcases hs : s.seq with _ | k
  · exact absurd hs h
  · simp [nextBurst, hs]

/-- A burst with a payload is acknowledged, or ends the operation with an error code, or leaves it running. -/
theorem startItem_outcome {it : Item} (hne : it.payload ≠ []) (s : State) :
    (∃ n rest, startItem it s = .done (it.acked n rest s)) ∨
    (∃ code info t, startItem it s = .raised code info t ∧ code ≠ .ok) ∨
    (∃ t, startItem it s = .blocked t ∧ t.seq = s.seq) := by
  rcases startItem_cases it s with ⟨page, column, -, -, h⟩ | ⟨-, ⟨-, h⟩ | ⟨-, hnil, -⟩ | ⟨-, -, h⟩⟩
  · exact .inr (.inl ⟨_, _, _, h, by decide⟩)
  · exact .inr (.inl ⟨_, _, _, h, by decide⟩)
  · exact absurd hnil hne
  · rcases transmit_cases it { bytes := encodeBurst s.cfg.policy it.tag it.payload, naks := 0 } s with
      ⟨n, rest, -, ht⟩ | ⟨_, _, -, ht⟩ | ⟨_, -, ht⟩
    · exact .inl ⟨n, rest, h.trans ht⟩
    · exact .inr (.inl ⟨_, _, _, h.trans ht, by decide⟩)
    · exact .inr (.inr ⟨_, h.trans ht, rfl⟩)

/-- An operation that is idle again with the response Ok had its next burst acknowledged and went on behind it: an error would
have answered with its own code, a pending write would have left it running. -/
theorem runItems_cons_of_ok {it : Item} {items : List Item} {s : State} (hne : it.payload ≠ []) (hrun : s.seq ≠ .idle)
    (hidle : (runItems (it :: items) s).seq = .idle) (hok : (runItems (it :: items) s).rsp.code = .ok) :
    ∃ n rest, runItems (it :: items) s = runItems items (nextBurst (it.acked n rest s)) := by
  rw [runItems_cons] at hidle hok ⊢
  rcases startItem_outcome hne s with ⟨n, rest, h⟩ | ⟨_, _, _, h, hcode⟩ | ⟨_, h, hseq⟩ <;> rw [h] at hidle hok ⊢
  · exact ⟨n, rest, rfl⟩
  · exact absurd hok hcode
  · exact absurd (hseq.symm.trans hidle) hrun

/-- A burst list that answers Ok has put the encoded burst of each of its items on the wire, in order, none skipped. -/
theorem runItems_wire_bytes_of_ok {items : List Item} {s : State} (hne : ∀ it ∈ items, it.payload ≠ [])
    (hrun : s.seq ≠ .idle) (hidle : (runItems items s).seq = .idle) (hok : (runItems items s).rsp.code = .ok) :
    (runItems items s).wire.map WireEntry.bytes =
      s.wire.map WireEntry.bytes ++ items.map (fun it => encodeBurst s.cfg.policy it.tag it.payload) := by
  induction items generalizing s with
  | nil => simp [runItems]
  | cons it items ih =>
    obtain ⟨hit, hitems⟩ := List.forall_mem_cons.mp hne
    obtain ⟨n, rest, hnext⟩ := runItems_cons_of_ok hit hrun hidle hok
    rw [hnext] at hidle hok ⊢
    have hrun' : (nextBurst (it.acked n rest s)).seq ≠ .idle := nextBurst_seq_ne_idle (by simpa using hrun)
    rw [ih hitems hrun' hidle hok]
    simp [Item.acked_wire, ackedEntry]

/-! ### INIT -/

/-- INIT has a next state only when idle: it latches its operation and runs the twelve steps (spec 42 R140). -/
theorem eq_runItems_of_exec_init {s t : State} (h : exec .init s = .next t) :
    t = runItems ((initStream s.cfg).map Item.initStep) { s with lat := { s.lat with op := .init }, seq := .running 0 } := by
  rcases accept_cases (fun l => { l with op := .init }) s.callerBuf s with ⟨-, hacc⟩ | ⟨-, hacc⟩
  · exact (Host.Outcome.next.inj (hacc.symm.trans h)).symm
  · cases hacc.symm.trans h

theorem ne_nil_of_mem_initStream {c : Config} {bytes : List Byte} (h : bytes ∈ initStream c) : bytes ≠ [] := by
  rintro rfl
  simp [initStream] at h

/-- The twelve steps encode to 36 bytes, two for each payload byte. -/
theorem initStream_encoded_length (c : Config) (policy : Policy) :
    ((initStream c).flatMap (encodeBurst policy .command)).length = 36 := by
  simp [initStream, encodeBurst, encodePairs_length]

/-- An INIT that answers Ok puts the twelve encoded steps on the wire, whatever state it starts from. -/
theorem exec_init_sent_bytes {s t : State} (h : exec .init s = .next t) (hidle : t.seq = .idle) (hok : t.rsp.code = .ok) :
    (t.wire.drop s.wire.length).map WireEntry.bytes = (initStream s.cfg).map (encodeBurst s.cfg.policy .command) := by
  obtain rfl := eq_runItems_of_exec_init h
  have hne : ∀ it ∈ (initStream s.cfg).map Item.initStep, it.payload ≠ [] :=
    List.forall_mem_map.mpr fun _ => ne_nil_of_mem_initStream
  rw [List.map_drop, runItems_wire_bytes_of_ok hne (by simp) hidle hok, List.drop_left' (by simp), List.map_map]
  rfl

/-- Settles O22: what a completed INIT sends is the encoding of its twelve steps, a function of INIT_STREAM and POLICY alone. -/
theorem initReplaysTheSameBytes : Obligations.InitReplaysTheSameBytes := by
  intro s s' t t' hpolicy hstream h h' hidle hidle' hok hok'
  have hsent := exec_init_sent_bytes h hidle hok
  have hsent' := exec_init_sent_bytes h' hidle' hok'
  have hsame : (t.wire.drop s.wire.length).map WireEntry.bytes = (t'.wire.drop s'.wire.length).map WireEntry.bytes := by
    rw [hsent, hsent', hpolicy, hstream]
  refine ⟨congrArg List.flatten hsame, ?_, ?_⟩
  · calc ((t.wire.drop s.wire.length).flatMap WireEntry.bytes).length
        = ((initStream s.cfg).flatMap (encodeBurst s.cfg.policy .command)).length := congrArg (·.flatten.length) hsent
      _ = 36 := initStream_encoded_length s.cfg s.cfg.policy
  · calc (t.wire.drop s.wire.length).flatMap (fun e => (txnPayload e.bytes).getD [])
        = ((t.wire.drop s.wire.length).map WireEntry.bytes).flatMap (fun bs => (txnPayload bs).getD []) :=
          by rw [List.flatMap_map]
      _ = (initStream s.cfg).flatten := by
          simp [hsent, List.flatMap_map, txnPayload_encodeBurst]

end Sys2Proof.Machine
end

section
/-! PROOF. A step of a running operation whose outcomes are decided, and that Naks alone never end it without a RETRY_LIMIT (spec 40
R108, 60 R241). -/
namespace Sys2Proof.Machine

/-- With RETRY_LIMIT infinite any number of Naks is counted and the write stays pending. -/
theorem attempts_none_replicate_nak (k n : Nat) : attempts none k (List.replicate n .nak) = .waiting (k + n) := by
  induction n generalizing k with
  | zero => rfl
  | succ n ih =>
    have hnext : attempts none (k + 1) (List.replicate n .nak) = .waiting (k + (n + 1)) := by
      rw [ih, Nat.add_right_comm, Nat.add_assoc]
    simpa [List.replicate_succ, attempts] using hnext

/-- No free outcome is drawn while a decided one is left. -/
theorem drawAttempt_of_answers_ne_nil {s : State} (h : s.answers ≠ []) : drawAttempt s = s :=
  if_neg h

/-- With nothing for the controller and an outcome decided, a step of a running operation goes on with it. -/
theorem step_of_running {s : State} {k : Nat} (hinbox : s.ctl.inbox = []) (hseq : s.seq = .running k) (ha : s.answers ≠ []) :
    step s = .next (resume s) := by
  have hstep : step s = .next (resume (drawAttempt s)) := by simp only [step, fetch, hinbox, hseq]
  rw [hstep, drawAttempt_of_answers_ne_nil ha]

/-- Going on with a pending write: the item the sequencer stands at, then the items behind it. -/
theorem resume_of_pending {s : State} {k : Nat} {it : Item} {w : PendingWrite} (hseq : s.seq = .running k)
    (hitem : (plan s.cfg s.lat s.callerBuf)[k]? = some it) (htx : s.tx = some w) :
    resume s = afterBurst ((plan s.cfg s.lat s.callerBuf).drop (k + 1)) (transmit it w s) := by
  obtain ⟨hk, rfl⟩ := List.getElem?_eq_some_iff.mp hitem
  have hdrop := List.drop_eq_getElem_cons hk
  simp only [resume, hseq, hdrop, htx]
  cases transmit _ w s <;> rfl

/-- Settles O11: the pending write's Naks leave it waiting, so the step ends where the write does, with only its count moved. -/
theorem endlessNakNeverEnds : Obligations.EndlessNakNeverEnds := by
  intro s k n w hinv hinbox hseq htx hlimit ha
  have hpending := hinv.pending
  simp only [State.pendingLegal, hseq] at hpending
  obtain ⟨it, -, hitem, -⟩ := hpending
  have hwait : transmit it w s = .blocked { s with tx := some { w with naks := w.naks + (n + 1) }, answers := [] } := by
    simp only [transmit, hlimit, ha, attempts_none_replicate_nak]
  rw [step_of_running hinbox hseq (by simp [ha]), resume_of_pending hseq hitem htx, hwait, afterBurst]

end Sys2Proof.Machine
end

section
/-! PROOF. The construction arguments through every kind of step (spec 70 R261). -/
namespace Sys2Proof.Machine

/-- A request runs its burst list, answers its reserved selector, or is refused: the configuration is only read. -/
theorem cfg_of_exec_request {r : Request} {s t : State} (h : exec (decodeRequest r) s = .next t) : t.cfg = s.cfg := by
  rcases exec_request r s with ⟨load, buf, hr⟩ | ⟨sel, hr⟩ | ⟨-, hr⟩ <;> rw [hr] at h
  · rcases accept_cases load buf s with ⟨-, ha⟩ | ⟨-, ha⟩ <;> cases ha.symm.trans h
    exact (runItems_frame _ _).cfg
  · unfold illegalRequest at h
    split at h <;> cases h
    exact raise_cfg _ _ s
  · split at h <;> cases h

theorem cfg_of_exec_control {b : Byte} {i : Instr} {s t : State} (hd : decodeCtrl b = .ok i) (h : exec i s = .next t) :
    t.cfg = s.cfg := by
  obtain ⟨cont, tag, -, hc⟩ := exec_control hd s
  cases hc.symm.trans h
  exact takeControl_cfg cont tag s

theorem cfg_of_exec_command {b : Byte} {i : Instr} {s t : State} (hd : decodeCmd b = .ok i) (h : exec i s = .next t) :
    t.cfg = s.cfg := by
  rcases exec_command hd s with hc | ⟨f, -, hc⟩ <;> cases hc.symm.trans h
  · exact voidMirror_cfg s
  · exact onMirror_cfg f s

/-- Settles O47, by the cases of a step: a run of DPF, a request, a delivery to the controller or one byte it consumes. -/
theorem configurationNeverChanges : Obligations.ConfigurationNeverChanges := by
  intro s t h
  rcases step_cases s with ⟨-, -, hs⟩ | ⟨-, -, -, hs⟩ | ⟨r, later, -, -, -, hs⟩ | ⟨later, -, hs⟩ |
    ⟨tag, payload, naks, later, -, hs⟩ | ⟨b, rest, later, -, hbyte⟩
  · -- the running operation goes on
    cases hs.symm.trans h
    exact (resume_frame _).cfg.trans (drawAttempt_cfg s)
  · -- nothing to do
    cases hs.symm.trans h
    rfl
  · -- the host's next request
    exact (cfg_of_exec_request (hs.symm.trans h)).trans rfl
  · -- the end of a frame
    cases hs.symm.trans h
    rfl
  · -- a lost write
    cases hs.symm.trans h
    exact takeLost_cfg tag payload naks _
  · -- one byte
    rcases hbyte with ⟨-, hs⟩ | ⟨-, hs⟩ | ⟨p, -, -, hs⟩ | ⟨-, -, hs⟩
    · rw [hs] at h
      split at h
      · exact (cfg_of_exec_control ‹_› h).trans (takeByte_cfg rest later s)
      · cases h
    · cases hs.symm.trans h
      exact takeData_cfg b _
    · cases hs.symm.trans h
      exact takeParam_cfg p b _
    · rw [hs] at h
      split at h
      · exact (cfg_of_exec_command ‹_› h).trans (takeByte_cfg rest later s)
      · cases h
        exact voidMirror_cfg _

end Sys2Proof.Machine
end

section
/-! PROOF. The decoder and the encoder are inverse to each other (spec 30 R82, R85, R89), and a transaction reads back (R93). -/
namespace Sys2Proof

/-! ### Decode after encode -/

theorem decode_encode_collo (n : BitVec 4) : decode (encode (.collo n)) = .ok (.collo n) := by revert n; decide
theorem decode_encode_colhi (n : BitVec 4) : decode (encode (.colhi n)) = .ok (.colhi n) := by revert n; decide
theorem decode_encode_scrollsetupV (v : BitVec 2) : decode (encode (.scrollsetupV v)) = .ok (.scrollsetupV v) := by
  revert v; decide
theorem decode_encode_startline (l : BitVec 6) : decode (encode (.startline l)) = .ok (.startline l) := by
  revert l; decide
theorem decode_encode_pagestart (p : BitVec 3) : decode (encode (.pagestart p)) = .ok (.pagestart p) := by
  revert p; decide
theorem decode_encode_reserved8F (low : BitVec 3) : decode (encode (.reserved8F low)) = .ok (.reserved8F low) := by
  revert low; decide

/-- Settles O1: an operand inside an opcode byte or a selector is read back by its own lemma, every other row has one word. -/
theorem decodeEncodeRoundTrip : Obligations.DecodeEncodeRoundTrip := by
  intro i
  cases i with
  | collo n => exact decode_encode_collo n
  | colhi n => exact decode_encode_colhi n
  | scrollsetupV v => exact decode_encode_scrollsetupV v
  | startline l => exact decode_encode_startline l
  | pagestart p => exact decode_encode_pagestart p
  | reserved8F low => exact decode_encode_reserved8F low
  | _ => rfl

/-! ### Encode after decode -/

/-- Each command byte either has no instruction or is the word of the one it decodes to. -/
theorem encode_of_decodeCmd {b : Byte} {i : Instr} (h : decodeCmd b = .ok i) : encode i = .cmd b := by
  have key : ∀ b : Byte, (match decodeCmd b with | .ok i => decide (encode i = .cmd b) | .error _ => true) = true := by
    decide +kernel
  simpa [h] using key b

theorem encode_of_decodeCtrl {b : Byte} {i : Instr} (h : decodeCtrl b = .ok i) : encode i = .ctrl b := by
  have key : ∀ b : Byte, (match decodeCtrl b with | .ok i => decide (encode i = .ctrl b) | .error _ => true) = true := by
    decide +kernel
  simpa [h] using key b

/-- Settles O2, byte by byte in each of the two wire formats. -/
theorem decodedWireByteIsItsEncoding : Obligations.DecodedWireByteIsItsEncoding :=
  ⟨fun _ _ => encode_of_decodeCmd, fun _ _ => encode_of_decodeCtrl⟩

/-- Settles O3, by running the decoder on the eleven words. -/
theorem sampleWordsDecode : Obligations.SampleWordsDecode := by
  unfold Obligations.SampleWordsDecode
  decide

/-- Settles O7: tag and payload are each read back from the encoded burst. -/
theorem transactionReadsBack : Obligations.TransactionReadsBack := by
  intro policy tag bytes hne
  exact ⟨Machine.txnTag_encodeBurst policy tag hne, Machine.txnPayload_encodeBurst policy tag bytes⟩

end Sys2Proof
end

section
/-! PROOF. What the controller's side of a step can change (spec 20 R58 to R60, R62), and which steps of the machine there are. -/
namespace Sys2Proof.Machine

/-! ### The frame of the controller -/

/-- What no move of the controller changes: nothing outside it but the counter of free values, and no meaning comes back. -/
structure ControllerFrame (s t : State) : Prop where
  outside : t = { s with ctl := t.ctl, draws := t.draws }
  meaning : s.ctl.meaning = false → t.ctl.meaning = false

theorem ControllerFrame.refl (s : State) : ControllerFrame s s := ⟨rfl, id⟩

theorem ControllerFrame.trans {s t u : State} (h : ControllerFrame s t) (h' : ControllerFrame t u) : ControllerFrame s u where
  outside := by
    have hu := h'.outside
    rw [h.outside] at hu
    exact hu
  meaning := h'.meaning ∘ h.meaning

theorem takeByte_controllerFrame (rest : List Byte) (later : List Delivery) (s : State) :
    ControllerFrame s (takeByte rest later s) := ⟨rfl, id⟩

theorem takeControl_controllerFrame (cont : Bool) (tag : Tag) (s : State) : ControllerFrame s (takeControl cont tag s) :=
  ⟨rfl, id⟩

theorem voidMirror_controllerFrame (s : State) : ControllerFrame s (voidMirror s) := ⟨rfl, fun _ => rfl⟩

/-- Without a meaning, a listed command leaves the mirror as every byte does: at free values. -/
theorem onMirror_of_void {s : State} (h : s.ctl.meaning = false) (f : Controller → Controller) : onMirror f s = voidMirror s := by
  simp [onMirror, h]

theorem onMirror_of_meaning {s : State} (h : s.ctl.meaning = true) (f : Controller → Controller) :
    onMirror f s = { s with ctl := f s.ctl } := by
  simp [onMirror, h]

theorem onMirror_controllerFrame (f : Controller → Controller) (s : State) : ControllerFrame s (onMirror f s) := by
  cases h : s.ctl.meaning with
  | false => exact onMirror_of_void h f ▸ voidMirror_controllerFrame s
  | true => exact ⟨by rw [onMirror_of_meaning h], fun hf => absurd (h.symm.trans hf) (by decide)⟩

theorem takeData_controllerFrame (v : Byte) (s : State) : ControllerFrame s (takeData v s) := by
  unfold takeData
  split
  · exact ⟨rfl, id⟩
  · exact voidMirror_controllerFrame s

theorem takeLost_controllerFrame (tag : Tag) (payload : List Byte) (naks : Nat) (s : State) :
    ControllerFrame s (takeLost tag payload naks s) := by
  unfold takeLost
  split <;> split
  · exact ⟨rfl, id⟩
  · exact voidMirror_controllerFrame s
  · exact ⟨rfl, id⟩
  · exact voidMirror_controllerFrame s

theorem exec_control_controllerFrame {b : Byte} {i : Instr} {s t : State} (hd : decodeCtrl b = .ok i) (h : exec i s = .next t) :
    ControllerFrame s t ∧ t.ctl.inbox = s.ctl.inbox := by
  obtain ⟨cont, tag, -, hc⟩ := exec_control hd s
  cases hc.symm.trans h
  exact ⟨takeControl_controllerFrame cont tag s, rfl⟩

theorem onMirror_inbox {f : Controller → Controller} (hf : CommandFrame f) (s : State) :
    (onMirror f s).ctl.inbox = s.ctl.inbox := by
  unfold onMirror
  split
  · exact hf.inbox s.ctl
  · rfl

theorem exec_command_controllerFrame {b : Byte} {i : Instr} {s t : State} (hd : decodeCmd b = .ok i) (h : exec i s = .next t) :
    ControllerFrame s t ∧ t.ctl.inbox = s.ctl.inbox := by
  rcases exec_command hd s with hc | ⟨f, hf, hc⟩ <;> cases hc.symm.trans h
  · exact ⟨voidMirror_controllerFrame s, rfl⟩
  · exact ⟨onMirror_controllerFrame f s, onMirror_inbox hf s⟩

/-- Settles O56: both kinds of wire byte have the frame of the controller and leave its inbox alone. -/
theorem wireBytesChangeOnlyTheController : Obligations.WireBytesChangeOnlyTheController := by
  rintro b i s t (hd | hd) h
  · obtain ⟨hframe, hinbox⟩ := exec_command_controllerFrame hd h
    exact ⟨hframe.outside, hinbox⟩
  · obtain ⟨hframe, hinbox⟩ := exec_control_controllerFrame hd h
    exact ⟨hframe.outside, hinbox⟩

/-! ### The steps of the machine -/

/-- A step is a move of the controller (or of nobody), the running operation going on, or the host's next request. -/
theorem step_next_cases {s t : State} (h : step s = .next t) :
    ControllerFrame s t ∨
    (s.ctl.inbox = [] ∧ s.seq ≠ .idle ∧ t = resume (drawAttempt s)) ∨
    (∃ r later, s.ctl.inbox = [] ∧ s.seq = .idle ∧ s.host = r :: later ∧
      exec (decodeRequest r) { s with host := later } = .next t) := by
  rcases step_cases s with ⟨hin, hseq, hs⟩ | ⟨-, -, -, hs⟩ | ⟨r, later, hin, hseq, hhost, hs⟩ | ⟨later, -, hs⟩ |
    ⟨tag, payload, naks, later, -, hs⟩ | ⟨b, rest, later, -, hbyte⟩
  · exact .inr (.inl ⟨hin, hseq, Host.Outcome.next.inj (h.symm.trans hs)⟩)
  · cases hs.symm.trans h
    exact .inl (.refl s)
  · exact .inr (.inr ⟨r, later, hin, hseq, hhost, hs.symm.trans h⟩)
  · cases hs.symm.trans h
    exact .inl ⟨rfl, id⟩
  · cases hs.symm.trans h
    exact .inl (ControllerFrame.trans (t := { s with ctl := { s.ctl with inbox := later } }) ⟨rfl, id⟩
      (takeLost_controllerFrame tag payload naks _))
  · refine .inl ((takeByte_controllerFrame rest later s).trans ?_)
    rcases hbyte with ⟨-, hs⟩ | ⟨-, hs⟩ | ⟨p, -, -, hs⟩ | ⟨-, -, hs⟩
    · rw [hs] at h
      split at h
      · exact (exec_control_controllerFrame ‹_› h).1
      · cases h
    · cases hs.symm.trans h
      exact takeData_controllerFrame b _
    · cases hs.symm.trans h
      exact onMirror_controllerFrame _ _
    · rw [hs] at h
      split at h
      · exact (exec_command_controllerFrame ‹_› h).1
      · cases h
        exact voidMirror_controllerFrame _

/-- A request that is answered found DPF idle; it ran the burst list of its operation, or was a reserved selector. -/
theorem exec_request_next {r : Request} {s t : State} (h : exec (decodeRequest r) s = .next t) :
    (∃ (load : Latches → Latches) (buf : List Byte), t = runItems (plan s.cfg (load s.lat) buf)
      { s with lat := load s.lat, callerBuf := buf, seq := .running 0 }) ∨
    (∃ sel, t = raise .illegalRequest (.selector sel) s) := by
  rcases exec_request r s with ⟨load, buf, hr⟩ | ⟨sel, hr⟩ | ⟨-, hr⟩ <;> rw [hr] at h
  · rcases accept_cases load buf s with ⟨-, ha⟩ | ⟨-, ha⟩ <;> cases ha.symm.trans h
    exact .inl ⟨load, buf, rfl⟩
  · unfold illegalRequest at h
    split at h <;> cases h
    exact .inr ⟨sel, rfl⟩
  · split at h <;> cases h

/-- A request changes the latches, the caller's side and what a run of DPF changes. -/
theorem exec_request_frame {r : Request} {s t : State} (h : exec (decodeRequest r) s = .next t) :
    ∃ lat buf seq, DpfFrame { s with lat := lat, callerBuf := buf, seq := seq } t := by
  rcases exec_request_next h with ⟨load, buf, rfl⟩ | ⟨sel, rfl⟩
  · exact ⟨load s.lat, buf, .running 0, runItems_frame _ _⟩
  · exact ⟨s.lat, s.callerBuf, s.seq, raise_frame _ _ s⟩

theorem drawAttempt_frame (s : State) : ∃ answers draws, drawAttempt s = { s with answers := answers, draws := draws } := by
  unfold drawAttempt
  split
  · exact ⟨_, _, rfl⟩
  · exact ⟨s.answers, s.draws, rfl⟩

/-- What DPF's moves and the controller's have in common. -/
theorem step_frame {s t : State} (h : step s = .next t) :
    (∃ es, t.wire = s.wire ++ es) ∧ (s.initState = .failed → t.initState = .failed) ∧
    (s.ctl.meaning = false → t.ctl.meaning = false) := by
  have hdpf {u : State} (hframe : DpfFrame u t) (hwire : u.wire = s.wire) (hinit : u.initState = s.initState)
      (hctl : u.ctl = s.ctl) : (∃ es, t.wire = s.wire ++ es) ∧ (s.initState = .failed → t.initState = .failed) ∧
      (s.ctl.meaning = false → t.ctl.meaning = false) := by
    obtain ⟨ds, hds⟩ := hframe.ctl
    exact ⟨hwire ▸ hframe.wire, fun hf => hframe.failed (hinit.trans hf), fun hm => by rw [hds, hctl]; exact hm⟩
  rcases step_next_cases h with hframe | ⟨-, -, rfl⟩ | ⟨r, later, -, -, -, hr⟩
  · refine ⟨⟨[], ?_⟩, fun hf => ?_, hframe.meaning⟩
    · rw [hframe.outside, List.append_nil]
    · rw [hframe.outside]; exact hf
  · exact hdpf (resume_frame _) (drawAttempt_wire s) (drawAttempt_initState s) (drawAttempt_ctl s)
  · obtain ⟨lat, buf, seq, hframe⟩ := exec_request_frame hr
    exact hdpf hframe rfl rfl rfl

/-- Settles O38: no move of DPF touches the mirror's meaning, and no move of the controller restores it. -/
theorem voidMirrorStaysVoid : Obligations.VoidMirrorStaysVoid :=
  fun _ _ h => (step_frame h).2.2

/-- Settles O48: a timed-out step of INIT and a finished INIT both leave a failed flag failed. -/
theorem failedInitializationIsSticky : Obligations.FailedInitializationIsSticky :=
  fun _ _ h => (step_frame h).2.1

/-- Settles O53: DPF appends to the wire history and the controller leaves it alone. -/
theorem wireOnlyGrows : Obligations.WireOnlyGrows :=
  fun _ _ h => (step_frame h).1

/-- Settles O42: the fetch picks the word, and `step` runs what it decodes to. -/
theorem stepRunsTheDecodedInstruction : Obligations.StepRunsTheDecodedInstruction := by
  intro s i
  refine ⟨fun r later hin hseq hhost hd => ?_, fun b rest later hin hexp hd => ?_, fun b rest later hin hexp hparam hd => ?_⟩
  · simp only [step, fetch, hin, hseq, hhost, hd]
  · simp only [step, fetch, hin, fetchByte, hexp, hd, takeByte]
  · simp only [step, fetch, hin, fetchByte, hexp, hparam, hd, takeByte]

end Sys2Proof.Machine
end

section
/-! PROOF. The induction over a burst list, packaged once, and what it gives for the flags and the response. -/
namespace Sys2Proof.Machine

/-! ### The induction over a burst list -/

/-- A burst ends well: `I` holds where the next burst starts, and `E` where the operation ends or waits. -/
def BurstEnd.Meets (I E : State → Prop) : BurstEnd → Prop
  | .done s => I (nextBurst s)
  | .raised code info s => E (raise code info s)
  | .blocked s => E s

theorem afterBurst_of_meets {I E : State → Prop} {rest : List Item} {e : BurstEnd} (h : e.Meets I E)
    (hrest : ∀ s, I s → E (runItems rest s)) : E (afterBurst rest e) := by
  cases e with
  | done s => exact hrest _ h
  | raised code info s => exact h
  | blocked s => exact h

/-- If `I`, of the items still to send, holds at the start and every burst ends well, then `E` holds where the list's run ends. -/
theorem runItems_ends {I : List Item → State → Prop} {E : State → Prop}
    (hstart : ∀ it rest s, I (it :: rest) s → (startItem it s).Meets (I rest) E) (hfinish : ∀ s, I [] s → E (finish s))
    (items : List Item) (s : State) (h : I items s) : E (runItems items s) := by
  induction items generalizing s with
  | nil => exact hfinish s h
  | cons it rest ih =>
    rw [runItems_cons]
    exact afterBurst_of_meets (hstart it rest s h) ih

/-- As `runItems_ends`, from a running operation: its pending write first. -/
theorem resume_ends {I : List Item → State → Prop} {E : State → Prop} {s : State} (hrun : s.seq ≠ .idle)
    (hstart : ∀ it rest s, I (it :: rest) s → (startItem it s).Meets (I rest) E) (hfinish : ∀ s, I [] s → E (finish s))
    (hpending : ∀ k it rest w, s.seq = .running k → (plan s.cfg s.lat s.callerBuf).drop k = it :: rest → s.tx = some w →
      (transmit it w s).Meets (I rest) E)
    (hnone : ∀ k, s.seq = .running k → ((plan s.cfg s.lat s.callerBuf).drop k = [] ∨ s.tx = none) →
      I ((plan s.cfg s.lat s.callerBuf).drop k) s) : E (resume s) := by
  rcases resume_cases s with ⟨hidle, -⟩ | ⟨k, it, rest, w, hseq, hdrop, htx, h⟩ | ⟨k, hseq, hor, h⟩
  · exact absurd hidle hrun
  · rw [h]
    exact afterBurst_of_meets (hpending k it rest w hseq hdrop htx) (runItems_ends hstart hfinish rest)
  · rw [h]
    exact runItems_ends hstart hfinish _ s (hnone k hseq hor)

/-- A burst that is stopped before its write, is empty, or is written: what has to be shown of each. -/
theorem startItem_meets {I E : State → Prop} {it : Item} {s : State}
    (hraise : ∀ code info, code ≠ .ok → code ≠ .busNak → E (raise code info s))
    (hempty : it.payload = [] → I (nextBurst (it.onAck s)))
    (hwrite : it.payload.length ≤ s.cfg.maxBurst → it.payload ≠ [] →
      (transmit it { bytes := encodeBurst s.cfg.policy it.tag it.payload, naks := 0 } s).Meets I E) :
    (startItem it s).Meets I E := by
  rcases startItem_cases it s with ⟨page, column, -, -, h⟩ | ⟨-, ⟨-, h⟩ | ⟨-, hnil, h⟩ | ⟨hsize, hne, h⟩⟩ <;> rw [h]
  · exact hraise _ _ (by decide) (by decide)
  · exact hraise _ _ (by decide) (by decide)
  · exact hempty hnil
  · exact hwrite hsize hne

/-- A write that is acknowledged, runs out of attempts, or waits: what has to be shown of each. -/
theorem transmit_meets {I E : State → Prop} {it : Item} {w : PendingWrite} {s : State}
    (hack : ∀ naks rest, attempts s.cfg.retryLimit w.naks s.answers = .acked naks rest →
      I (nextBurst (it.onAck (record w.bytes naks .ack (.frame w.bytes) { s with tx := none, answers := rest }))))
    (htimeout : ∀ naks rest, attempts s.cfg.retryLimit w.naks s.answers = .timedOut naks rest →
      E (raise .transportTimeout .none (it.onTimeout (record w.bytes naks .timeout (.lost it.tag it.payload naks)
        { s with tx := none, answers := rest }))))
    (hwait : ∀ naks, attempts s.cfg.retryLimit w.naks s.answers = .waiting naks →
      E { s with tx := some { w with naks := naks }, answers := [] }) :
    (transmit it w s).Meets I E := by
  rcases transmit_cases it w s with ⟨naks, rest, ha, h⟩ | ⟨naks, rest, ha, h⟩ | ⟨naks, ha, h⟩ <;> rw [h]
  · exact hack naks rest ha
  · exact htimeout naks rest ha
  · exact hwait naks ha

/-! ### The response -/

/-- The response is `r` still, or the operation has ended with a code other than BusNak. -/
def AnsweredSince (r : Response) (s : State) : Prop := s.rsp = r ∨ (s.seq = .idle ∧ s.rsp.code ≠ .busNak)

theorem transmit_answered (r : Response) (it : Item) (w : PendingWrite) {s : State} (h : s.rsp = r) :
    (transmit it w s).Meets (fun s => s.rsp = r) (AnsweredSince r) :=
  transmit_meets (fun _ _ _ => by simpa using h) (fun _ _ _ => .inr ⟨rfl, by simp⟩) (fun _ _ => .inl h)

theorem startItem_answered (r : Response) (it : Item) {s : State} (h : s.rsp = r) :
    (startItem it s).Meets (fun s => s.rsp = r) (AnsweredSince r) :=
  startItem_meets (fun _ _ _ hnak => .inr ⟨rfl, hnak⟩) (fun _ => by simpa using h) (fun _ _ => transmit_answered r it _ h)

theorem finish_answered (r : Response) (s : State) : AnsweredSince r (finish s) := by
  refine .inr ⟨finish_seq s, ?_⟩
  unfold finish
  split <;> simp

theorem runItems_answered (items : List Item) (s : State) : AnsweredSince s.rsp (runItems items s) :=
  runItems_ends (I := fun _ t => t.rsp = s.rsp) (fun it _ _ h => startItem_answered _ it h) (fun t _ => finish_answered _ t)
    items s rfl

theorem resume_answered {s : State} (hrun : s.seq ≠ .idle) : AnsweredSince s.rsp (resume s) :=
  resume_ends (I := fun _ t => t.rsp = s.rsp) hrun (fun it _ _ h => startItem_answered _ it h) (fun t _ => finish_answered _ t)
    (fun _ it _ w _ _ _ => transmit_answered _ it w rfl) (fun _ _ _ => rfl)

theorem step_answered {s t : State} (h : step s = .next t) : AnsweredSince s.rsp t := by
  rcases step_next_cases h with hframe | ⟨-, hrun, rfl⟩ | ⟨r, later, -, -, -, hr⟩
  · exact .inl (by rw [hframe.outside])
  · simpa using resume_answered (s := drawAttempt s) (by simpa using hrun)
  · rcases exec_request_next hr with ⟨load, buf, rfl⟩ | ⟨sel, rfl⟩
    · exact runItems_answered _ _
    · exact .inr ⟨rfl, by simp⟩

/-- Settles O51: a response that is new carries the code of an ended operation. -/
theorem busNakNeverAnswered : Obligations.BusNakNeverAnswered := by
  intro s t h hcode
  rcases step_answered h with hsame | ⟨-, hnak⟩
  · exact hsame
  · exact absurd hcode hnak

/-- Settles O52: a response that is new is that of an ended operation. -/
theorem responseEndsTheOperation : Obligations.ResponseEndsTheOperation := by
  intro s t h hnew
  rcases step_answered h with hsame | ⟨hidle, -⟩
  · exact absurd hsame hnew
  · exact hidle

/-! ### The initialization flag -/

/-- The items of an operation are steps of INIT exactly in INIT. -/
theorem initStep_mem_plan {c : Config} {l : Latches} {buf : List Byte} {it : Item} (h : it ∈ plan c l buf) :
    (∃ bytes, it = .initStep bytes) ↔ l.op = .init := by
  cases hop : l.op <;> simp only [plan, hop] at h
  case getaddr => cases h
  case init => obtain ⟨bytes, -, rfl⟩ := List.mem_map.mp h; simp
  case frameC | frameD | seek => obtain rfl := List.mem_singleton.mp h; simp
  case clear => obtain ⟨p, -, hp⟩ := List.mem_flatMap.mp h; rcases List.mem_pair.mp hp with rfl | rfl <;> simp
  case write => obtain ⟨p, -, hp⟩ := List.mem_flatMap.mp h; rcases List.mem_pair.mp hp with rfl | rfl <;> simp

theorem onTimeout_initState_of_not_initStep {it : Item} (h : ∀ bytes, it ≠ .initStep bytes) (s : State) :
    (it.onTimeout s).initState = s.initState := by
  cases it with
  | initStep bytes => exact absurd rfl (h bytes)
  | _ => rfl

theorem finish_initState_of_not_init {s : State} (h : s.lat.op ≠ .init) : (finish s).initState = s.initState := by
  unfold finish
  split
  case h_2 hop => exact absurd hop h
  all_goals rfl

/-- The rest of an operation other than INIT, started with the initialization flag `i`. -/
structure NotInit (i : InitState) (items : List Item) (s : State) : Prop where
  items : ∀ it ∈ items, ∀ bytes, it ≠ .initStep bytes
  op : s.lat.op ≠ .init
  flag : s.initState = i

theorem transmit_notInit {i : InitState} {it : Item} {rest : List Item} {s : State} (h : NotInit i (it :: rest) s)
    (w : PendingWrite) : (transmit it w s).Meets (NotInit i rest) (fun t => t.initState = i) := by
  obtain ⟨hit, hrest⟩ := List.forall_mem_cons.mp h.items
  refine transmit_meets (fun _ _ _ => ⟨hrest, by simpa using h.op, by simpa using h.flag⟩) (fun _ _ _ => ?_)
    (fun _ _ => h.flag)
  rw [raise_initState, onTimeout_initState_of_not_initStep hit]
  exact h.flag

theorem startItem_notInit {i : InitState} {it : Item} {rest : List Item} {s : State} (h : NotInit i (it :: rest) s) :
    (startItem it s).Meets (NotInit i rest) (fun t => t.initState = i) :=
  startItem_meets (fun _ _ _ _ => h.flag)
    (fun _ => ⟨(List.forall_mem_cons.mp h.items).2, by simpa using h.op, by simpa using h.flag⟩)
    (fun _ _ => transmit_notInit h _)

theorem finish_notInit {i : InitState} {items : List Item} {s : State} (h : NotInit i items s) : (finish s).initState = i :=
  (finish_initState_of_not_init h.op).trans h.flag

theorem not_initStep_of_mem_drop_plan {c : Config} {l : Latches} {buf : List Byte} (hop : l.op ≠ .init) (k : Nat) :
    ∀ it ∈ (plan c l buf).drop k, ∀ bytes, it ≠ .initStep bytes :=
  fun _ hit bytes heq => hop ((initStep_mem_plan (List.mem_of_mem_drop hit)).mp ⟨bytes, heq⟩)

theorem runItems_plan_initState {s : State} (hop : s.lat.op ≠ .init) :
    (runItems (plan s.cfg s.lat s.callerBuf) s).initState = s.initState :=
  runItems_ends (fun _ _ _ => startItem_notInit) (fun _ => finish_notInit) _ s
    ⟨not_initStep_of_mem_drop_plan hop 0, hop, rfl⟩

theorem resume_initState {s : State} (hrun : s.seq ≠ .idle) (hop : s.lat.op ≠ .init) : (resume s).initState = s.initState :=
  resume_ends hrun (fun _ _ _ => startItem_notInit) (fun _ => finish_notInit)
    (fun k _ _ w _ hdrop _ => transmit_notInit ⟨hdrop ▸ not_initStep_of_mem_drop_plan hop k, hop, rfl⟩ w)
    (fun k _ _ => ⟨not_initStep_of_mem_drop_plan hop k, hop, rfl⟩)

/-- Settles O49: a run of another operation keeps the flag, and the latches name the operation that ran. -/
theorem onlyInitWritesInitState : Obligations.OnlyInitWritesInitState := by
  intro s t h
  contrapose
  intro hop
  rcases step_next_cases h with hframe | ⟨-, hrun, rfl⟩ | ⟨r, later, -, -, -, hr⟩
  · rw [hframe.outside]
  · rw [(resume_frame _).lat] at hop
    simpa using resume_initState (s := drawAttempt s) (by simpa using hrun) hop
  · rcases exec_request_next hr with ⟨load, buf, rfl⟩ | ⟨sel, rfl⟩
    · rw [(runItems_frame _ _).lat] at hop
      exact runItems_plan_initState hop
    · rfl

/-! ### The cursor-synchronised flag -/

theorem op_of_seek_mem_plan {c : Config} {l : Latches} {buf : List Byte} {page column : Nat}
    (h : .seek page column ∈ plan c l buf) : l.op = .seek ∨ l.op = .clear ∨ l.op = .write := by
  cases hop : l.op <;> simp only [plan, hop] at h
  case getaddr => cases h
  case init => simp at h
  case frameC | frameD => simp at h
  case seek | clear | write => simp

/-- Only the Ack of a `Seek` sets the flag. -/
theorem onAck_unsynced {it : Item} {s : State} (hit : ∀ page column, it ≠ .seek page column) (h : s.synced = false) :
    (it.onAck s).synced = false := by
  match it with
  | .seek page column => exact absurd rfl (hit page column)
  | .raw .command bytes => simp only [Item.onAck, unsyncAfterRaw]; split <;> simp [h]
  | .raw .data bytes => simp [Item.onAck, advanceCursor, h]
  | .initStep bytes => exact h

theorem onTimeout_synced (it : Item) (s : State) : (it.onTimeout s).synced = false := by cases it <;> rfl

/-- Bursts without a `Seek`, the cursor not synchronised. -/
structure Unsynced (items : List Item) (s : State) : Prop where
  items : ∀ it ∈ items, ∀ page column, it ≠ .seek page column
  flag : s.synced = false

theorem transmit_unsynced {it : Item} {rest : List Item} {s : State} (h : Unsynced (it :: rest) s) (w : PendingWrite) :
    (transmit it w s).Meets (Unsynced rest) (fun t => t.synced = false) := by
  obtain ⟨hit, hrest⟩ := List.forall_mem_cons.mp h.items
  refine transmit_meets (fun _ _ _ => ⟨hrest, ?_⟩) (fun _ _ _ => onTimeout_synced it _) (fun _ _ => h.flag)
  rw [nextBurst_synced]
  exact onAck_unsynced hit h.flag

theorem startItem_unsynced {it : Item} {rest : List Item} {s : State} (h : Unsynced (it :: rest) s) :
    (startItem it s).Meets (Unsynced rest) (fun t => t.synced = false) := by
  obtain ⟨hit, hrest⟩ := List.forall_mem_cons.mp h.items
  refine startItem_meets (fun _ _ _ _ => h.flag) (fun _ => ⟨hrest, ?_⟩) (fun _ _ => transmit_unsynced h _)
  rw [nextBurst_synced]
  exact onAck_unsynced hit h.flag

theorem finish_unsynced {items : List Item} {s : State} (h : Unsynced items s) : (finish s).synced = false :=
  (finish_synced s).trans h.flag

theorem not_seek_of_mem_drop_plan {c : Config} {l : Latches} {buf : List Byte}
    (hop : ¬ (l.op = .seek ∨ l.op = .clear ∨ l.op = .write)) (k : Nat) :
    ∀ it ∈ (plan c l buf).drop k, ∀ page column, it ≠ .seek page column :=
  fun _ hit _ _ heq => hop (op_of_seek_mem_plan (heq ▸ List.mem_of_mem_drop hit))

/-- Settles O50: without a `Seek` in its burst list a run leaves a cleared flag cleared. -/
theorem onlySeekSetsSynced : Obligations.OnlySeekSetsSynced := by
  intro s t h hs
  contrapose
  intro hop
  rw [Bool.not_eq_true]
  rcases step_next_cases h with hframe | ⟨-, hrun, rfl⟩ | ⟨r, later, -, -, -, hr⟩
  · rw [hframe.outside]
    exact hs
  · rw [(resume_frame _).lat] at hop
    have hflag : (drawAttempt s).synced = false := (drawAttempt_synced s).trans hs
    exact resume_ends (by simpa using hrun) (fun _ _ _ => startItem_unsynced) (fun _ => finish_unsynced)
      (fun k _ _ w _ hdrop _ => transmit_unsynced ⟨hdrop ▸ not_seek_of_mem_drop_plan hop k, hflag⟩ w)
      (fun k _ _ => ⟨not_seek_of_mem_drop_plan hop k, hflag⟩)
  · rcases exec_request_next hr with ⟨load, buf, rfl⟩ | ⟨sel, rfl⟩
    · rw [(runItems_frame _ _).lat] at hop
      exact runItems_ends (fun _ _ _ => startItem_unsynced) (fun _ => finish_unsynced) _ _
        ⟨not_seek_of_mem_drop_plan hop 0, hs⟩
    · exact hs

end Sys2Proof.Machine
end

section
/-! PROOF. The retry loop of TxWrite (spec 40 R108), and the bursts that send nothing (spec 40 R106, 60 R232). -/
namespace Sys2Proof.Machine

/-! ### The retry loop -/

/-- Naks that stay below RETRY_LIMIT, and nothing decided behind them, leave the write waiting. -/
theorem attempts_replicate_nak {limit : Option Nat} {k n : Nat} (h : nakAllowed limit (k + n)) :
    attempts limit k (List.replicate n .nak) = .waiting (k + n) := by
  induction n generalizing k with
  | zero => rfl
  | succ n ih =>
    have hlimit : limit ≠ some (k + 1) := fun hl => by have := h _ hl; omega
    have hnext : attempts limit (k + 1) (List.replicate n .nak) = .waiting (k + (n + 1)) := by
      rw [ih (by rwa [Nat.add_right_comm]), Nat.add_right_comm, Nat.add_assoc]
    simpa [List.replicate_succ, attempts, hlimit] using hnext

/-- The last of the RETRY_LIMIT Naks ends the write, whatever outcomes follow. -/
theorem attempts_replicate_nak_timedOut {m k n : Nat} (hn : 1 ≤ n) (hm : k + n = m) (rest : List Attempt) :
    attempts (some m) k (List.replicate n .nak ++ rest) = .timedOut m rest := by
  induction n generalizing k with
  | zero => exact absurd hn (by omega)
  | succ n ih =>
    rw [List.replicate_succ, List.cons_append, attempts]
    by_cases hlast : m = k + 1
    · obtain rfl : n = 0 := by omega
      simp [hlast]
    · rw [if_neg (by simpa using hlast)]
      exact ih (by omega) (by omega)

/-- Settles O10: each of the three ends is one of the laws of the loop. -/
theorem transportRetryLoop : Obligations.TransportRetryLoop := by
  refine ⟨fun limit k n rest h => attempts_replicate_nak_ack h rest, fun m k rest hk => ?_, attempts_none_replicate_nak⟩
  exact attempts_replicate_nak_timedOut (by omega) (by omega) rest

/-! ### Bursts that send nothing -/

theorem onAck_of_payload_nil {it : Item} (h : it.payload = []) (s : State) : it.onAck s = s := by
  match it, h with
  | .raw .command [], _ => rfl
  | .raw .data [], _ => rfl
  | .initStep [], _ => rfl

/-- Settles O9: no check stops an empty burst, and as an acknowledged one it moves no register. -/
theorem emptyBurstSendsNothing : Obligations.EmptyBurstSendsNothing := by
  intro it s hnil
  rcases startItem_cases it s with ⟨page, column, rfl, -, -⟩ | ⟨-, ⟨hbig, -⟩ | ⟨-, -, h⟩ | ⟨-, hne, -⟩⟩
  · exact absurd hnil (List.cons_ne_nil _ _)
  · exact absurd hbig (by simp [hnil])
  · rw [h, onAck_of_payload_nil hnil]
  · exact absurd hnil hne

/-- A burst above MAX_BURST that the strict check lets through is stopped by the size check. -/
theorem startItem_tooLarge {it : Item} {s : State}
    (hstrict : ∀ page column, it = .seek page column → strictRejects s.cfg page column = false)
    (hbig : s.cfg.maxBurst < it.payload.length) :
    startItem it s = .raised .bufferTooLarge (.count it.payload.length) s := by
  rcases startItem_cases it s with ⟨page, column, hit, hr, -⟩ | ⟨-, ⟨-, h⟩ | ⟨hsize, -⟩ | ⟨hsize, -⟩⟩
  · exact absurd hr (by simp [hstrict page column hit])
  · exact h
  · exact absurd hbig (Nat.not_lt_of_le hsize)
  · exact absurd hbig (Nat.not_lt_of_le hsize)

/-- The Transport ends a write with a Timeout and no other error. -/
theorem transmit_ne_raised {it : Item} {w : PendingWrite} {s t : State} {code : Code} {info : Info}
    (hcode : code ≠ .transportTimeout) : transmit it w s ≠ .raised code info t := by
  rcases transmit_cases it w s with ⟨_, _, -, h⟩ | ⟨_, _, -, h⟩ | ⟨_, -, h⟩ <;> rw [h]
  · simp
  · exact fun heq => hcode (BurstEnd.raised.inj heq).1.symm
  · simp

/-- Settles O8: above the limit only the size check can stop the burst; at the limit it is empty, written or out of range. -/
theorem burstSizeLimit : Obligations.BurstSizeLimit := by
  intro it s hstrict
  refine ⟨fun hbig => ⟨startItem_tooLarge hstrict hbig, fun rest => ?_⟩, fun hsize n t => ?_⟩
  · rw [runItems_cons, startItem_tooLarge hstrict hbig]
    rfl
  · rcases startItem_cases it s with ⟨_, _, -, -, h⟩ | ⟨-, ⟨hbig, -⟩ | ⟨-, -, h⟩ | ⟨-, -, h⟩⟩
    · simp [h]
    · exact absurd hbig (Nat.not_lt_of_le hsize)
    · simp [h]
    · rw [h]
      exact transmit_ne_raised (by decide)

end Sys2Proof.Machine
end

section
/-! PROOF. The invariant of spec 10 R41 through every move of the controller (spec 20 R58 to R60, R67). -/
namespace Sys2Proof.Machine

/-! ### The parts of the invariant -/

/-- The invariant's part about DPF's registers and the wire history. -/
structure State.DpfInv (s : State) : Prop where
  cfg_wf : s.cfg.wf = true
  addrMode_page : s.addrMode = .page
  synced_inRange : s.synced = true → cursorInRange s.cfg s.curPage s.curCol = true
  wire_wf : ∀ e ∈ s.wire, e.wf s.cfg = true

/-- The invariant's part about the controller's mirror. -/
structure MirrorInv (c : Config) (m : Controller) : Prop where
  gdd_wf : Memory.wf m.gdd = true
  gdd_inRange : cellsInRange c m.gdd = true
  void_unknown : m.meaning = false → m.gdd = [] ∧ m.param = none

theorem State.Inv.dpf {s : State} (h : s.Inv) : s.DpfInv := ⟨h.cfg_wf, h.addrMode_page, h.synced_inRange, h.wire_wf⟩

theorem State.Inv.mirror {s : State} (h : s.Inv) : MirrorInv s.cfg s.ctl := ⟨h.gdd_wf, h.gdd_inRange, h.void_unknown⟩

theorem State.Inv.of_parts {s : State} (hdpf : s.DpfInv) (hpending : s.pendingLegal) (hmirror : MirrorInv s.cfg s.ctl)
    (hinbox : inboxLegal s.ctl.expect s.ctl.inbox = true) : s.Inv :=
  ⟨hdpf.cfg_wf, hdpf.addrMode_page, hdpf.synced_inRange, hdpf.wire_wf, hpending, hinbox, hmirror.gdd_wf, hmirror.gdd_inRange,
    hmirror.void_unknown⟩

/-- Another controller state that is legal keeps the invariant: DPF's part does not read the controller. -/
theorem State.Inv.withController {s : State} (h : s.Inv) {m : Controller} (draws : Nat) (hmirror : MirrorInv s.cfg m)
    (hinbox : inboxLegal m.expect m.inbox = true) : State.Inv { s with ctl := m, draws := draws } :=
  .of_parts ⟨h.cfg_wf, h.addrMode_page, h.synced_inRange, h.wire_wf⟩ h.pending hmirror hinbox

/-- Settles O44: construction puts every field of the invariant at a legal value. -/
theorem constructionMeetsInvariant : Obligations.ConstructionMeetsInvariant := fun _ hc =>
  { cfg_wf := hc
    addrMode_page := rfl
    synced_inRange := fun h => nomatch h
    wire_wf := fun _ h => nomatch h
    pending := rfl
    inbox := rfl
    gdd_wf := rfl
    gdd_inRange := rfl
    void_unknown := fun h => nomatch h }

/-- Settles O43: the fields are those of `State.construct`, the device address that of the strap. -/
theorem constructionResetValues : Obligations.ConstructionResetValues := fun c =>
  ⟨rfl, rfl, rfl, rfl, rfl, rfl, rfl, rfl, devAddr_eq c⟩

theorem Config.wf_iff (c : Config) :
    c.wf = true ↔ 1 ≤ c.pageCount ∧ c.pageCount ≤ 8 ∧ 1 ≤ c.segCount ∧ c.segCount ≤ 256 ∧ c.retryLimit ≠ some 0 := by
  simp [Config.wf, and_assoc]

/-! ### Moves of the mirror -/

/-- A move of the mirror: the receiver stays where it is, and a legal mirror stays legal. -/
structure MirrorMove (s t : State) : Prop extends ControllerFrame s t where
  inbox : t.ctl.inbox = s.ctl.inbox
  expect : t.ctl.expect = s.ctl.expect
  legal : s.cfg.wf = true → MirrorInv s.cfg s.ctl → MirrorInv s.cfg t.ctl

theorem MirrorMove.keeps_inv {s t : State} (hmove : MirrorMove s t) (h : s.Inv) : t.Inv := by
  rw [hmove.outside]
  exact h.withController t.draws (hmove.legal h.cfg_wf h.mirror) (by rw [hmove.inbox, hmove.expect]; exact h.inbox)

theorem voidMirror_move (s : State) : MirrorMove s (voidMirror s) :=
  { voidMirror_controllerFrame s with
    inbox := rfl, expect := rfl, legal := fun _ _ => ⟨rfl, rfl, fun _ => ⟨rfl, rfl⟩⟩ }

theorem onMirror_move {f : Controller → Controller} (hf : CommandFrame f) (s : State) : MirrorMove s (onMirror f s) := by
  cases hm : s.ctl.meaning with
  | false => exact onMirror_of_void hm f ▸ voidMirror_move s
  | true =>
    refine { onMirror_controllerFrame f s with inbox := onMirror_inbox hf s, expect := ?_, legal := fun _ h => ?_ } <;>
      rw [onMirror_of_meaning hm]
    · exact hf.expect s.ctl
    · exact ⟨(hf.gdd s.ctl).symm ▸ h.gdd_wf, (hf.gdd s.ctl).symm ▸ h.gdd_inRange,
        fun hvoid => absurd (hm.symm.trans ((hf.meaning s.ctl).symm.trans hvoid)) (by decide)⟩

theorem takeParam_move (p : Param) (v : Byte) (s : State) : MirrorMove s (takeParam p v s) := by
  unfold takeParam
  refine onMirror_move ?_ s
  exact ⟨fun _ => rfl, fun _ => rfl, fun _ => rfl, fun _ => rfl, fun _ => rfl⟩

theorem mirrorInRange_iff (s : State) :
    mirrorInRange s = true ↔ s.ctl.page.toNat < s.cfg.pageCount ∧ s.ctl.col.toNat < s.cfg.segCount := by
  simp [mirrorInRange]

theorem cellsInRange_iff (c : Config) (m : Memory) :
    cellsInRange c m = true ↔ ∀ cell ∈ m, cell.1 / 256 < c.pageCount ∧ cell.1 % 256 < c.segCount := by
  simp [cellsInRange]

/-- A byte stored inside the geometry is a cell inside the geometry. -/
theorem cellsInRange_write {c : Config} {m : Memory} {page col : Nat} (v : Byte) (hc : c.wf = true) (hp : page < c.pageCount)
    (hcol : col < c.segCount) (h : cellsInRange c m = true) :
    cellsInRange c (Memory.write m (gddAddr page col) v) = true := by
  obtain ⟨-, -, -, hseg, -⟩ := (Config.wf_iff c).mp hc
  rw [cellsInRange_iff] at h ⊢
  intro cell hmem
  rcases Memory.mem_write hmem with rfl | hold
  · simp only [gddAddr]
    omega
  · exact h cell hold

theorem cellsInRange_subset {c : Config} {m m' : Memory} (hsub : ∀ cell ∈ m', cell ∈ m) (h : cellsInRange c m = true) :
    cellsInRange c m' = true :=
  (cellsInRange_iff c m').mpr fun cell hmem => (cellsInRange_iff c m).mp h cell (hsub cell hmem)

theorem takeData_move (v : Byte) (s : State) : MirrorMove s (takeData v s) := by
  refine { takeData_controllerFrame v s with inbox := ?_, expect := ?_, legal := fun hc h => ?_ } <;> unfold takeData <;> split
  · rfl
  · rfl
  · rfl
  · rfl
  · rename_i hin
    obtain ⟨hm, hrange⟩ := Bool.and_eq_true_iff.mp hin
    obtain ⟨hp, hcol⟩ := (mirrorInRange_iff s).mp hrange
    exact ⟨Memory.write_wf _ _ h.gdd_wf, cellsInRange_write v hc hp hcol h.gdd_inRange,
      fun hvoid => absurd (hm.symm.trans hvoid) (by decide)⟩
  · exact (voidMirror_move s).legal hc h

theorem takeLost_move (tag : Tag) (payload : List Byte) (naks : Nat) (s : State) :
    MirrorMove s (takeLost tag payload naks s) := by
  refine { takeLost_controllerFrame tag payload naks s with inbox := ?_, expect := ?_, legal := fun hc h => ?_ }
  · unfold takeLost; split <;> split <;> rfl
  · unfold takeLost; split <;> split <;> rfl
  · unfold takeLost
    split <;> split
    · rename_i hm
      exact ⟨h.gdd_wf, h.gdd_inRange, fun hvoid => absurd (hm.symm.trans hvoid) (by decide)⟩
    · exact (voidMirror_move s).legal hc h
    · rename_i hin
      obtain ⟨hm, -⟩ := Bool.and_eq_true_iff.mp hin
      exact ⟨forgetRow_wf _ _ _ _ h.gdd_wf, cellsInRange_subset (forgetRow_subset _ _ _ _ _) h.gdd_inRange,
        fun hvoid => absurd (hm.symm.trans hvoid) (by decide)⟩
    · exact (voidMirror_move s).legal hc h

theorem exec_command_move {b : Byte} {i : Instr} {s t : State} (hd : decodeCmd b = .ok i) (h : exec i s = .next t) :
    MirrorMove s t := by
  rcases exec_command hd s with hc | ⟨f, hf, hc⟩ <;> cases hc.symm.trans h
  · exact voidMirror_move s
  · exact onMirror_move hf s

/-! ### The inbox -/

theorem inboxLegal_control_of_all {later : List Delivery} (h : later.all Delivery.wf = true) :
    inboxLegal .control later = true := by
  cases later with
  | nil => rfl
  | cons d later =>
    obtain ⟨hd, hlater⟩ := Bool.and_eq_true_iff.mp (List.all_cons ▸ h)
    cases d with
    | frame bs => exact Bool.and_eq_true_iff.mpr ⟨hd, hlater⟩
    | lost tag payload naks => simpa [inboxLegal] using hlater

/-- What the inbox is left with when one of its frames has gone: the receiver stands between two pairs. -/
theorem inboxLegal_after_payload {rest : List Byte} {later : List Delivery} (hrest : pairsLegal rest = true)
    (hlater : later.all Delivery.wf = true) :
    inboxLegal .control (if rest = [] then later else .frame rest :: later) = true := by
  by_cases h : rest = []
  · simpa [h] using inboxLegal_control_of_all hlater
  · simp only [h, if_false, inboxLegal, hrest, hlater, decide_not, decide_false, Bool.not_false, Bool.and_self]

/-- The byte of a started pair is taken and the receiver stands between two pairs. -/
theorem takeByte_payload_inv {s : State} {tag : Tag} {b : Byte} {rest : List Byte} {later : List Delivery} (h : s.Inv)
    (hin : s.ctl.inbox = .frame (b :: rest) :: later) (hexp : s.ctl.expect = .payload tag) : (takeByte rest later s).Inv := by
  have hinbox := h.inbox
  rw [hin, hexp] at hinbox
  obtain ⟨hrest, hlater⟩ := Bool.and_eq_true_iff.mp hinbox
  exact h.withController s.draws ⟨h.gdd_wf, h.gdd_inRange, h.void_unknown⟩ (inboxLegal_after_payload hrest hlater)

/-- Where the receiver expects a control byte it finds one of the four, and its payload byte behind it. -/
theorem inboxLegal_control_frame {b : Byte} {rest : List Byte} {later : List Delivery}
    (h : inboxLegal .control (.frame (b :: rest) :: later) = true) :
    b &&& 0x3F#8 = 0#8 ∧ ∃ p rest', rest = p :: rest' ∧ pairsLegal rest' = true ∧ later.all Delivery.wf = true := by
  cases rest with
  | nil => simp [inboxLegal, pairsLegal] at h
  | cons p rest' =>
    simp only [inboxLegal, pairsLegal, Bool.and_eq_true, decide_eq_true_eq] at h
    obtain ⟨⟨-, hb, hrest⟩, hlater⟩ := h
    exact ⟨hb, p, rest', rfl, hrest, hlater⟩

theorem takeControl_takeByte_inv {s : State} {b : Byte} {rest : List Byte} {later : List Delivery} (h : s.Inv)
    (hin : s.ctl.inbox = .frame (b :: rest) :: later) (hexp : s.ctl.expect = .control) (cont : Bool) (tag : Tag) :
    (takeControl cont tag (takeByte rest later s)).Inv := by
  have hinbox := h.inbox
  rw [hin, hexp] at hinbox
  obtain ⟨-, p, rest', rfl, hrest, hlater⟩ := inboxLegal_control_frame hinbox
  exact h.withController s.draws ⟨h.gdd_wf, h.gdd_inRange, h.void_unknown⟩ (Bool.and_eq_true_iff.mpr ⟨hrest, hlater⟩)

theorem popLost_inv {s : State} {tag : Tag} {payload : List Byte} {naks : Nat} {later : List Delivery} (h : s.Inv)
    (hin : s.ctl.inbox = .lost tag payload naks :: later) : State.Inv { s with ctl := { s.ctl with inbox := later } } := by
  have hinbox := h.inbox
  rw [hin] at hinbox
  simp only [inboxLegal, Bool.and_eq_true, decide_eq_true_eq] at hinbox
  obtain ⟨hexp, hlater⟩ := hinbox
  exact h.withController s.draws ⟨h.gdd_wf, h.gdd_inRange, h.void_unknown⟩ (hexp ▸ inboxLegal_control_of_all hlater)

/-- A legal inbox never holds an empty frame. -/
theorem not_inboxLegal_empty_frame (expect : Expect) (later : List Delivery) :
    inboxLegal expect (.frame [] :: later) = false := by
  cases expect <;> simp [inboxLegal]

/-- A write that ended adds a delivery behind what the controller is at. -/
theorem inboxLegal_append {expect : Expect} {inbox : List Delivery} {d : Delivery} (h : inboxLegal expect inbox = true)
    (hd : d.wf = true) : inboxLegal expect (inbox ++ [d]) = true := by
  cases inbox with
  | nil =>
    obtain rfl : expect = .control := by simpa [inboxLegal] using h
    exact inboxLegal_control_of_all (by simpa using hd)
  | cons d' later =>
    have hall (hlater : later.all Delivery.wf = true) : (later ++ [d]).all Delivery.wf = true := by simp [hlater, hd]
    cases d' with
    | frame bs =>
      obtain ⟨hbs, hlater⟩ := Bool.and_eq_true_iff.mp h
      exact Bool.and_eq_true_iff.mpr ⟨hbs, hall hlater⟩
    | lost tag payload naks =>
      obtain ⟨hexp, hlater⟩ := Bool.and_eq_true_iff.mp h
      exact Bool.and_eq_true_iff.mpr ⟨hexp, hall hlater⟩

end Sys2Proof.Machine
end

section
/-! PROOF. The invariant of spec 10 R41 through every move of DPF, and that a step of it always answers (spec 30 R88, 20 R52). -/
namespace Sys2Proof.Machine

/-! ### RETRY_LIMIT -/

theorem naksLegal_ack_iff (limit : Option Nat) (n : Nat) : naksLegal limit n .ack = true ↔ nakAllowed limit n := by
  cases limit <;> simp [naksLegal, nakAllowed]

theorem nakAllowed_zero {c : Config} (hc : c.wf = true) : nakAllowed c.retryLimit 0 := by
  obtain ⟨-, -, -, -, hlimit⟩ := (Config.wf_iff c).mp hc
  exact fun m hm => Nat.pos_of_ne_zero fun h0 => hlimit (h0 ▸ hm)

/-- From a legal count of Naks on, the count stays legal up to the Ack or the end of the decided outcomes, and a Timeout comes at
RETRY_LIMIT. -/
theorem attempts_naksLegal {limit : Option Nat} {k : Nat} (h : nakAllowed limit k) (as : List Attempt) :
    match attempts limit k as with
    | .acked n _ => naksLegal limit n .ack = true
    | .timedOut n _ => naksLegal limit n .timeout = true
    | .waiting n => naksLegal limit n .ack = true := by
  rcases attempts_cases limit k as with ⟨n, rest, -, ha, hlt⟩ | ⟨n, rest, -, hlimit, ha⟩ | ⟨n, -, ha, hlt⟩ <;> rw [ha]
  · exact (naksLegal_ack_iff limit _).mpr fun m hm => hlt m hm (h m hm)
  · simp [naksLegal, hlimit]
  · exact (naksLegal_ack_iff limit _).mpr fun m hm => hlt m hm (h m hm)

/-! ### The updates of DPF's registers -/

/-- `DpfInv` reads the configuration, the mode, the cursor with its flag, and the wire history. -/
theorem State.DpfInv.of_eq {s t : State} (h : s.DpfInv) (hcfg : t.cfg = s.cfg) (hmode : t.addrMode = s.addrMode)
    (hwire : t.wire = s.wire) (hsync : t.synced = true → cursorInRange t.cfg t.curPage t.curCol = true) : t.DpfInv :=
  ⟨hcfg ▸ h.cfg_wf, hmode.trans h.addrMode_page, hsync, by rw [hcfg, hwire]; exact h.wire_wf⟩

theorem cursorInRange_iff (c : Config) (page : BitVec 3) (col : Byte) :
    cursorInRange c page col = true ↔ page.toNat < c.pageCount ∧ col.toNat < c.segCount := by
  simp [cursorInRange]

/-- AdvanceCursor of a non-empty burst in one equation (spec 41 R127). -/
theorem advanceCursor_eq {n : Nat} (hn : n ≠ 0) (s : State) : advanceCursor n s =
    { s with
      curCol := if s.synced then
          (if s.curCol.toNat + n ≤ s.cfg.segCount - 1 then BitVec.ofNat 8 (s.curCol.toNat + n)
           else BitVec.ofNat 8 (s.cfg.segCount - 1))
        else s.curCol,
      synced := s.synced && decide (s.curCol.toNat + n ≤ s.cfg.segCount - 1) } := by
  cases hsync : s.synced with
  | false =>
    have hsame : s = { s with synced := false } := by rw [← hsync]
    simpa [advanceCursor, hsync] using hsame
  | true => by_cases hfits : s.curCol.toNat + n ≤ s.cfg.segCount - 1 <;> simp [advanceCursor, hn, hsync, hfits]

/-- A cursor that is still synchronised after AdvanceCursor has not left its page. -/
theorem advanceCursor_inRange {s : State} (n : Nat) (hc : s.cfg.wf = true)
    (h : s.synced = true → cursorInRange s.cfg s.curPage s.curCol = true) (hsync : (advanceCursor n s).synced = true) :
    cursorInRange s.cfg (advanceCursor n s).curPage (advanceCursor n s).curCol = true := by
  obtain ⟨-, -, hseg, -, -⟩ := (Config.wf_iff s.cfg).mp hc
  rcases Nat.eq_zero_or_pos n with rfl | hn
  · exact h hsync
  · rw [advanceCursor_eq (by omega)] at hsync ⊢
    obtain ⟨hs, hfits⟩ : s.synced = true ∧ s.curCol.toNat + n ≤ s.cfg.segCount - 1 := by simpa using hsync
    obtain ⟨hpage, -⟩ := (cursorInRange_iff _ _ _).mp (h hs)
    have hle := Nat.mod_le (s.curCol.toNat + n) (2 ^ 8)
    refine (cursorInRange_iff _ _ _).mpr ⟨hpage, ?_⟩
    simp only [hs, hfits, if_true, BitVec.toNat_ofNat]
    omega

theorem onAck_dpfInv {s : State} (h : s.DpfInv) (it : Item) : (it.onAck s).DpfInv := by
  refine h.of_eq (onAck_cfg it s) (onAck_addrMode it s) (onAck_wire it s) ?_
  rw [onAck_cfg]
  match it with
  | .raw .command bytes =>
    simp only [Item.onAck, unsyncAfterRaw]
    split
    · exact fun hsync => absurd hsync (by simp)
    · exact h.synced_inRange
  | .raw .data bytes => exact advanceCursor_inRange bytes.length h.cfg_wf h.synced_inRange
  | .seek page column => exact id
  | .initStep bytes => exact h.synced_inRange

theorem onTimeout_dpfInv {s : State} (h : s.DpfInv) (it : Item) : (it.onTimeout s).DpfInv :=
  h.of_eq (onTimeout_cfg it s) (onTimeout_addrMode it s) (onTimeout_wire it s)
    fun hsync => absurd ((onTimeout_synced it s).symm.trans hsync) (by decide)

theorem record_dpfInv {s : State} (h : s.DpfInv) {bytes : List Byte} {naks : Nat} {r : TxResult} (d : Delivery)
    (hentry : WireEntry.wf s.cfg { dev := s.cfg.devAddr, bytes := bytes, naks := naks, result := r } = true) :
    (record bytes naks r d s).DpfInv where
  cfg_wf := h.cfg_wf
  addrMode_page := h.addrMode_page
  synced_inRange := h.synced_inRange
  wire_wf := List.forall_mem_append.mpr ⟨h.wire_wf, List.forall_mem_singleton.mpr hentry⟩

theorem nextBurst_dpfInv {s : State} (h : s.DpfInv) : (nextBurst s).DpfInv :=
  h.of_eq (nextBurst_cfg s) (nextBurst_addrMode s) (nextBurst_wire s) (by simpa using h.synced_inRange)

theorem finish_dpfInv {s : State} (h : s.DpfInv) : (finish s).DpfInv :=
  h.of_eq (finish_cfg s) (finish_addrMode s) (finish_wire s) (by simpa using h.synced_inRange)

theorem nextBurst_seq {s : State} {k : Nat} (h : s.seq = .running k) : (nextBurst s).seq = .running (k + 1) := by
  simp [nextBurst, h]

/-! ### A run of DPF -/

/-- The encoded burst of an item within MAX_BURST makes a legal wire entry, whose frame the controller can take. -/
theorem encodeBurst_wireEntry_wf {c : Config} {it : Item} (hne : it.payload ≠ []) (hsize : it.payload.length ≤ c.maxBurst)
    {naks : Nat} {r : TxResult} (hnaks : naksLegal c.retryLimit naks r = true) :
    WireEntry.wf c { dev := c.devAddr, bytes := encodeBurst c.policy it.tag it.payload, naks := naks, result := r } = true := by
  have hpos : 0 < it.payload.length := List.length_pos_iff.mpr hne
  have hlen : (encodeBurst c.policy it.tag it.payload).length = 2 * it.payload.length := encodePairs_length _ _ _ _ _
  simp only [WireEntry.wf, devAddr_eq, hlen, hnaks, Bool.and_eq_true, decide_eq_true_eq, and_true, true_and]
  omega

theorem encodeBurst_frame_wf (policy : Policy) (tag : Tag) {bytes : List Byte} (h : bytes ≠ []) :
    (Delivery.frame (encodeBurst policy tag bytes)).wf = true := by
  simp [Delivery.wf, encodeBurst, encodePairs_ne_nil h, encodePairs_pairsLegal]

/-- What holds of an operation between two of its bursts, or while a write of it is under way: the invariant, but for the pending
write, which the burst about to start or under way decides. -/
structure RunInv (s : State) : Prop where
  dpf : s.DpfInv
  mirror : MirrorInv s.cfg s.ctl
  inbox : inboxLegal s.ctl.expect s.ctl.inbox = true

/-- DPF moves nothing of the controller but the end of its inbox, so a run keeps `RunInv` once its registers are legal. -/
theorem RunInv.of_ctl_eq {s t : State} (h : RunInv s) (hdpf : t.DpfInv) (hcfg : t.cfg = s.cfg) (hctl : t.ctl = s.ctl) :
    RunInv t :=
  ⟨hdpf, by rw [hcfg, hctl]; exact h.mirror, by rw [hctl]; exact h.inbox⟩

theorem record_runInv {s : State} (h : RunInv s) {bytes : List Byte} {naks : Nat} {r : TxResult} {d : Delivery}
    (hentry : WireEntry.wf s.cfg { dev := s.cfg.devAddr, bytes := bytes, naks := naks, result := r } = true)
    (hd : d.wf = true) : RunInv (record bytes naks r d s) :=
  ⟨record_dpfInv h.dpf d hentry, ⟨h.mirror.gdd_wf, h.mirror.gdd_inRange, h.mirror.void_unknown⟩,
    inboxLegal_append h.inbox hd⟩

theorem RunInv.withTransport {s : State} (h : RunInv s) (tx : Option PendingWrite) (as : List Attempt) :
    RunInv { s with tx := tx, answers := as } :=
  h.of_ctl_eq (h.dpf.of_eq rfl rfl rfl h.dpf.synced_inRange) rfl rfl

/-- The operation is idle with no write pending. -/
theorem RunInv.inv_of_idle {s : State} (h : RunInv s) (hidle : s.seq = .idle) (htx : s.tx = none) : s.Inv :=
  .of_parts h.dpf (by rw [State.pendingLegal, hidle]; exact htx) h.mirror h.inbox

/-- An operation about to start the bursts `items`, the rest of its burst list, with no write pending. -/
structure RunsItems (items : List Item) (s : State) : Prop extends RunInv s where
  tx : s.tx = none
  seq : ∃ k, s.seq = .running k ∧ (plan s.cfg s.lat s.callerBuf).drop k = items

/-- A write of the burst the sequencer is at, with attempts left, ends in a state of the invariant or in front of the next burst. -/
theorem transmit_keeps_inv {it : Item} {rest : List Item} {w : PendingWrite} {s : State} {k : Nat} (h : RunInv s)
    (hseq : s.seq = .running k) (hdrop : (plan s.cfg s.lat s.callerBuf).drop k = it :: rest)
    (hbytes : w.bytes = encodeBurst s.cfg.policy it.tag it.payload) (hne : it.payload ≠ [])
    (hsize : it.payload.length ≤ s.cfg.maxBurst) (hnaks : nakAllowed s.cfg.retryLimit w.naks) :
    (transmit it w s).Meets (RunsItems rest) State.Inv := by
  have hlegal := attempts_naksLegal hnaks s.answers
  refine transmit_meets (fun naks as ha => ?_) (fun naks as ha => ?_) (fun naks ha => ?_) <;> rw [ha] at hlegal
  · have hrec := record_runInv (h.withTransport none as) (bytes := w.bytes) (naks := naks) (r := .ack) (d := .frame w.bytes)
      (hbytes ▸ encodeBurst_wireEntry_wf hne hsize hlegal) (hbytes ▸ encodeBurst_frame_wf _ _ hne)
    have hack := hrec.of_ctl_eq (onAck_dpfInv hrec.dpf it) (onAck_cfg it _) (onAck_ctl it _)
    refine { hack.of_ctl_eq (nextBurst_dpfInv hack.dpf) (nextBurst_cfg _) (nextBurst_ctl _) with tx := by simp, seq := ?_ }
    refine ⟨k + 1, nextBurst_seq (by simpa using hseq), ?_⟩
    simp only [nextBurst_cfg, nextBurst_lat, nextBurst_callerBuf, onAck_cfg, onAck_lat, onAck_callerBuf, record_cfg,
      record_lat, record_callerBuf]
    rw [List.drop_add_one_eq_tail_drop, hdrop, List.tail_cons]
  · have hrec := record_runInv (h.withTransport none as) (bytes := w.bytes) (naks := naks) (r := .timeout)
      (d := .lost it.tag it.payload naks) (hbytes ▸ encodeBurst_wireEntry_wf hne hsize hlegal) rfl
    have hto := hrec.of_ctl_eq (onTimeout_dpfInv hrec.dpf it) (onTimeout_cfg it _) (onTimeout_ctl it _)
    exact (hto.of_ctl_eq (t := raise _ _ _) (hto.dpf.of_eq rfl rfl rfl hto.dpf.synced_inRange) rfl rfl).inv_of_idle rfl
      (by simp)
  · have hitem : (plan s.cfg s.lat s.callerBuf)[k]? = some it := by
      rw [← List.head?_drop, hdrop, List.head?_cons]
    exact .of_parts (h.withTransport _ _).dpf
      (by simp only [State.pendingLegal, hseq]; exact ⟨it, _, hitem, rfl, hne, hsize, hbytes, hlegal⟩) h.mirror h.inbox

theorem startItem_keeps_inv {it : Item} {rest : List Item} {s : State} (h : RunsItems (it :: rest) s) :
    (startItem it s).Meets (RunsItems rest) State.Inv := by
  obtain ⟨k, hseq, hdrop⟩ := h.seq
  refine startItem_meets (fun code info _ _ => ?_) (fun hnil => ?_) (fun hsize hne => ?_)
  · exact (h.toRunInv.of_ctl_eq (t := raise code info s) (h.dpf.of_eq rfl rfl rfl h.dpf.synced_inRange) rfl rfl).inv_of_idle
      rfl h.tx
  · rw [onAck_of_payload_nil hnil]
    refine { h.toRunInv.of_ctl_eq (nextBurst_dpfInv h.dpf) (nextBurst_cfg s) (nextBurst_ctl s) with
      tx := (nextBurst_tx s).trans h.tx, seq := ⟨k + 1, nextBurst_seq hseq, ?_⟩ }
    simp only [nextBurst_cfg, nextBurst_lat, nextBurst_callerBuf]
    rw [List.drop_add_one_eq_tail_drop, hdrop, List.tail_cons]
  · exact transmit_keeps_inv h.toRunInv hseq hdrop rfl hne hsize (nakAllowed_zero h.dpf.cfg_wf)

theorem finish_keeps_inv {items : List Item} {s : State} (h : RunsItems items s) : (finish s).Inv :=
  (h.toRunInv.of_ctl_eq (finish_dpfInv h.dpf) (finish_cfg s) (finish_ctl s)).inv_of_idle (finish_seq s)
    ((finish_tx s).trans h.tx)

theorem runItems_keeps_inv {items : List Item} {s : State} (h : RunsItems items s) : (runItems items s).Inv :=
  runItems_ends (fun _ _ _ => startItem_keeps_inv) (fun _ => finish_keeps_inv) items s h

theorem State.Inv.runInv {s : State} (h : s.Inv) : RunInv s := ⟨h.dpf, h.mirror, h.inbox⟩

/-- The pending write of a running operation, as the invariant knows it. -/
theorem State.Inv.pending_of_running {s : State} {k : Nat} (h : s.Inv) (hseq : s.seq = .running k) :
    ∃ it w, (plan s.cfg s.lat s.callerBuf)[k]? = some it ∧ s.tx = some w ∧ it.payload ≠ [] ∧
      it.payload.length ≤ s.cfg.maxBurst ∧ w.bytes = encodeBurst s.cfg.policy it.tag it.payload ∧
      nakAllowed s.cfg.retryLimit w.naks := by
  have hpending := h.pending
  simp only [State.pendingLegal, hseq, naksLegal_ack_iff] at hpending
  exact hpending

theorem State.Inv.tx_of_idle {s : State} (h : s.Inv) (hidle : s.seq = .idle) : s.tx = none := by
  have hpending := h.pending
  simpa only [State.pendingLegal, hidle] using hpending

theorem resume_keeps_inv {s : State} (h : s.Inv) (hrun : s.seq ≠ .idle) : (resume s).Inv := by
  rcases hs : s.seq with _ | k
  · exact absurd hs hrun
  · obtain ⟨it, w, hitem, htx, hne, hsize, hbytes, hnaks⟩ := h.pending_of_running hs
    obtain ⟨hk, rfl⟩ := List.getElem?_eq_some_iff.mp hitem
    rw [resume_of_pending hs hitem htx]
    exact afterBurst_of_meets
      (transmit_keeps_inv h.runInv hs (List.drop_eq_getElem_cons hk) hbytes hne hsize hnaks) (fun _ => runItems_keeps_inv)

theorem drawAttempt_keeps_inv {s : State} (h : s.Inv) : (drawAttempt s).Inv := by
  obtain ⟨answers, draws, hdraw⟩ := drawAttempt_frame s
  rw [hdraw]
  exact ⟨h.cfg_wf, h.addrMode_page, h.synced_inRange, h.wire_wf, h.pending, h.inbox, h.gdd_wf, h.gdd_inRange, h.void_unknown⟩

/-- A request starts its burst list from the latched operands, an idle DPF having no write pending. -/
theorem exec_request_keeps_inv {r : Request} {s t : State} (h : s.Inv) (hidle : s.seq = .idle)
    (hr : exec (decodeRequest r) s = .next t) : t.Inv := by
  have htx := h.tx_of_idle hidle
  rcases exec_request_next hr with ⟨load, buf, rfl⟩ | ⟨sel, rfl⟩
  · have hstart : RunInv { s with lat := load s.lat, callerBuf := buf, seq := .running 0 } :=
      h.runInv.of_ctl_eq (h.dpf.of_eq rfl rfl rfl h.synced_inRange) rfl rfl
    exact runItems_keeps_inv { hstart with tx := htx, seq := ⟨0, rfl, List.drop_zero⟩ }
  · exact (h.runInv.of_ctl_eq (t := raise _ _ s) (h.dpf.of_eq rfl rfl rfl h.synced_inRange) rfl rfl).inv_of_idle rfl htx

theorem withHost_inv {s : State} (h : s.Inv) (later : List Request) : State.Inv { s with host := later } :=
  ⟨h.cfg_wf, h.addrMode_page, h.synced_inRange, h.wire_wf, h.pending, h.inbox, h.gdd_wf, h.gdd_inRange, h.void_unknown⟩

/-! ### The step -/

/-- Settles O45: the moves of DPF end their bursts legally, the controller's take a legal inbox one byte on and move the mirror. -/
theorem stepKeepsInvariant : Obligations.StepKeepsInvariant := by
  intro s t hinv h
  rcases step_cases s with ⟨-, hrun, hs⟩ | ⟨-, -, -, hs⟩ | ⟨r, later, -, hidle, -, hs⟩ | ⟨later, hin, hs⟩ |
    ⟨tag, payload, naks, later, hin, hs⟩ | ⟨b, rest, later, hin, hbyte⟩
  · -- the running operation goes on
    cases hs.symm.trans h
    exact resume_keeps_inv (drawAttempt_keeps_inv hinv) (by simpa using hrun)
  · -- nothing to do
    cases hs.symm.trans h
    exact hinv
  · -- the host's next request
    exact exec_request_keeps_inv (withHost_inv hinv later) hidle (hs.symm.trans h)
  · -- an empty frame is never in a legal inbox
    exact absurd hinv.inbox (by rw [hin, not_inboxLegal_empty_frame]; decide)
  · -- a lost write
    cases hs.symm.trans h
    exact (takeLost_move tag payload naks _).keeps_inv (popLost_inv hinv hin)
  · -- one byte
    rcases hbyte with ⟨hexp, hs⟩ | ⟨hexp, hs⟩ | ⟨p, hexp, -, hs⟩ | ⟨hexp, -, hs⟩
    · rw [hs] at h
      split at h
      · obtain ⟨cont, tag, -, hc⟩ := exec_control ‹_› (takeByte rest later s)
        cases hc.symm.trans h
        exact takeControl_takeByte_inv hinv hin hexp cont tag
      · cases h
    · cases hs.symm.trans h
      exact (takeData_move b _).keeps_inv (takeByte_payload_inv hinv hin hexp)
    · cases hs.symm.trans h
      exact (takeParam_move p b _).keeps_inv (takeByte_payload_inv hinv hin hexp)
    · rw [hs] at h
      split at h
      · exact (exec_command_move ‹_› h).keeps_inv (takeByte_payload_inv hinv hin hexp)
      · cases h
        exact (voidMirror_move _).keeps_inv (takeByte_payload_inv hinv hin hexp)

/-- A byte with zero in bits 5:0 is one of the four control bytes. -/
theorem decodeCtrl_of_low {b : Byte} (h : b &&& 0x3F#8 = 0#8) : ∃ i, decodeCtrl b = .ok i := by
  have key : ∀ b : Byte, b &&& 0x3F#8 = 0#8 → (decodeCtrl b).isOk = true := by decide +kernel
  have hok := key b h
  cases hd : decodeCtrl b with
  | ok i => exact ⟨i, rfl⟩
  | error e => rw [hd] at hok; cases hok

/-- An idle DPF answers every request but a WRITE whose buffer is too short. -/
theorem exec_request_of_idle {s : State} (hidle : s.seq = .idle) (r : Request) :
    (∃ t, exec (decodeRequest r) s = .next t) ∨
    (exec (decodeRequest r) s = .refused .bufferTooShort ∧ (decodeRequest r).wf = false) := by
  rcases exec_request r s with ⟨load, buf, hr⟩ | ⟨sel, hr⟩ | ⟨hwf, hr⟩
  · exact .inl ⟨_, hr.trans (if_pos hidle)⟩
  · exact .inl ⟨_, hr.trans (if_pos hidle)⟩
  · exact .inr ⟨hr.trans (if_pos hidle), hwf⟩

/-- Settles O46: of the two refusals, a reserved control byte is never in a legal inbox. -/
theorem stepAnswersUnlessShortWrite : Obligations.StepAnswersUnlessShortWrite := by
  intro s hinv
  rcases step_cases s with ⟨-, -, hs⟩ | ⟨-, -, -, hs⟩ | ⟨r, later, hin, hidle, hhost, hs⟩ | ⟨later, -, hs⟩ |
    ⟨tag, payload, naks, later, -, hs⟩ | ⟨b, rest, later, hin, ⟨hexp, hs⟩ | ⟨-, hs⟩ | ⟨p, -, -, hs⟩ | ⟨-, -, hs⟩⟩
  · exact .inl ⟨_, hs⟩
  · exact .inl ⟨_, hs⟩
  · rcases exec_request_of_idle (s := { s with host := later }) hidle r with ⟨t, hr⟩ | ⟨hr, hwf⟩
    · exact .inl ⟨t, hs.trans hr⟩
    · exact .inr ⟨hs.trans hr, hidle, hin, r, later, _, hhost, rfl, hwf⟩
  · exact .inl ⟨_, hs⟩
  · exact .inl ⟨_, hs⟩
  · have hinbox := hinv.inbox
    rw [hin, hexp] at hinbox
    obtain ⟨i, hd⟩ := decodeCtrl_of_low (inboxLegal_control_frame hinbox).1
    obtain ⟨cont, tag, -, hc⟩ := exec_control hd (takeByte rest later s)
    exact .inl ⟨_, by rw [hs, hd]; exact hc⟩
  · exact .inl ⟨_, hs⟩
  · exact .inl ⟨_, hs⟩
  · cases hd : decodeCmd b with
    | error e => exact .inl ⟨_, by rw [hs, hd]⟩
    | ok i =>
      rcases exec_command hd (takeByte rest later s) with hc | ⟨f, -, hc⟩
      · exact .inl ⟨_, by rw [hs, hd]; exact hc⟩
      · exact .inl ⟨_, by rw [hs, hd]; exact hc⟩

end Sys2Proof.Machine
end

section
/-! PROOF. What the controller does with each byte and with the news of a lost write (spec 20 R58 to R60, R67; 44). -/
namespace Sys2Proof.Machine

/-! ### Control and command bytes -/

/-- Settles O30, each by the meaning of its control byte. -/
theorem controlBytesSetTheReceiver : Obligations.ControlBytesSetTheReceiver :=
  fun _ => ⟨rfl, rfl, rfl, rfl⟩

/-- A nibble put into the low half of a byte. -/
theorem low_nibble_eq (col : Byte) (n : BitVec 4) :
    (col &&& 0xF0#8) ||| n.setWidth 8 = BitVec.ofNat 8 (col.toNat / 16 * 16 + n.toNat) := by
  revert col n
  decide +kernel

/-- A nibble put into the high half of a byte. -/
theorem high_nibble_eq (col : Byte) (n : BitVec 4) :
    (n.setWidth 8 <<< 4) ||| (col &&& 0x0F#8) = BitVec.ofNat 8 (n.toNat * 16 + col.toNat % 16) := by
  revert col n
  decide +kernel

/-- Settles O31: each command is one update of the mirror, its nibble written as arithmetic. -/
theorem cursorCommandsMoveTheMirror : Obligations.CursorCommandsMoveTheMirror := by
  intro s hm
  refine ⟨fun n => ?_, fun n => ?_, fun p => ?_⟩
  · simp only [exec, execCollo, onMirror_of_meaning hm, low_nibble_eq]
  · simp only [exec, execColhi, onMirror_of_meaning hm, high_nibble_eq]
  · simp only [exec, execPagestart, onMirror_of_meaning hm]

/-- A command that is an update of the mirror, on a mirror with a meaning. -/
theorem next_onMirror {s : State} (hm : s.ctl.meaning = true) (f : Controller → Controller) :
    (.next (onMirror f s) : Host.Outcome State Fault Refusal) = .next { s with ctl := f s.ctl } := by
  rw [onMirror_of_meaning hm]

/-- Settles O32: each command is its update of one setting. -/
theorem settingCommandsLeaveTheMirror : Obligations.SettingCommandsLeaveTheMirror := by
  intro s hm
  exact ⟨fun _ => next_onMirror hm _, next_onMirror hm _, next_onMirror hm _, next_onMirror hm _, next_onMirror hm _,
    next_onMirror hm _, next_onMirror hm _, next_onMirror hm _, next_onMirror hm _, next_onMirror hm _, next_onMirror hm _,
    next_onMirror hm _⟩

/-- Settles O33: each command only names its parameter as the awaited one. -/
theorem parameterCommandsAwaitTheirByte : Obligations.ParameterCommandsAwaitTheirByte := by
  intro s hm
  exact ⟨next_onMirror hm _, next_onMirror hm _, next_onMirror hm _, next_onMirror hm _, next_onMirror hm _,
    next_onMirror hm _⟩

/-- Settles O35: each of the eleven commands is `voidMirror`. -/
theorem uncountedCommandsVoidTheMirror : Obligations.UncountedCommandsVoidTheMirror := by
  rintro s i (rfl | rfl | rfl | rfl | rfl | ⟨v, rfl⟩ | rfl | rfl | rfl | rfl | rfl) <;> exact ⟨_, _, _, rfl⟩

/-! ### A byte of a frame -/

theorem step_parameter {s : State} {p : Param} {b : Byte} {rest : List Byte} {later : List Delivery}
    (hin : s.ctl.inbox = .frame (b :: rest) :: later) (hexp : s.ctl.expect = .payload .command) (hp : s.ctl.param = some p) :
    step s = .next (takeParam p b (takeByte rest later s)) := by
  simp only [step, fetch, hin, fetchByte, hexp, hp]

theorem step_data {s : State} {b : Byte} {rest : List Byte} {later : List Delivery}
    (hin : s.ctl.inbox = .frame (b :: rest) :: later) (hexp : s.ctl.expect = .payload .data) :
    step s = .next (takeData b (takeByte rest later s)) := by
  simp only [step, fetch, hin, fetchByte, hexp]

theorem step_lost {s : State} {tag : Tag} {payload : List Byte} {naks : Nat} {later : List Delivery}
    (hin : s.ctl.inbox = .lost tag payload naks :: later) :
    step s = .next (takeLost tag payload naks { s with ctl := { s.ctl with inbox := later } }) := by
  simp only [step, fetch, hin]

/-- Writing one parameter's setting, field by field. -/
theorem setParam_eq (p : Param) (b : Byte) (t : Settings) : t.setParam p b =
    { t with contrast := if p = .contrast then b else t.contrast,
             chargePump := if p = .chargePump then b else t.chargePump,
             muxRatio := if p = .muxRatio then b else t.muxRatio,
             dispOffset := if p = .dispOffset then b else t.dispOffset,
             clockDiv := if p = .clockDiv then b else t.clockDiv,
             comPins := if p = .comPins then b else t.comPins } := by
  cases p <;> rfl

/-- Settles O34: the byte goes to the awaited parameter before any opcode is read from it. -/
theorem parameterByteSkipped : Obligations.ParameterByteSkipped := by
  intro s p b rest later hin hexp hp hm
  rw [step_parameter hin hexp hp, takeParam, onMirror_of_meaning (s := takeByte rest later s) hm]
  simp only [setParam_eq, takeByte]

/-- Settles O36: a byte that decodes to no instruction is taken and voids the mirror. -/
theorem unlistedCommandVoidsTheMirror : Obligations.UnlistedCommandVoidsTheMirror := by
  intro s b rest later hin hexp hp hunlisted
  cases hd : decodeCmd b with
  | ok i => exact absurd hd (hunlisted i)
  | error e =>
    have hstep : step s = .next (voidMirror (takeByte rest later s)) := by
      simp only [step, fetch, hin, fetchByte, hexp, hp, decode, hd, error_of_decodeCmd hd, rejectWord]
    exact ⟨_, _, _, hstep⟩

theorem takeData_of_inRange {s : State} (v : Byte) (hm : s.ctl.meaning = true) (hr : mirrorInRange s = true) :
    takeData v s = { s with ctl := { s.ctl with gdd := Memory.write s.ctl.gdd (dataAddr s) v,
                                                col := BitVec.ofNat 8 ((s.ctl.col.toNat + 1) % s.cfg.segCount) } } := by
  simp [takeData, hm, hr]

theorem takeData_of_void {s : State} (v : Byte) (h : s.ctl.meaning = false ∨ mirrorInRange s = false) :
    takeData v s = voidMirror s := by
  rcases h with h | h <;> simp [takeData, h]

/-- Settles O39: the byte is the one write to the display RAM. -/
theorem dataByteStoredAtTheCursor : Obligations.DataByteStoredAtTheCursor := by
  intro s v rest later hin hexp hm hpage hcol
  refine ⟨Memory.write s.ctl.gdd (dataAddr s) v, ?_, fun a => ?_⟩
  · have hr : mirrorInRange (takeByte rest later s) = true := (mirrorInRange_iff _).mpr ⟨hpage, hcol⟩
    rw [step_data hin hexp, takeData_of_inRange (s := takeByte rest later s) v hm hr]
    rfl
  · by_cases ha : a = gddAddr s.ctl.page.toNat s.ctl.col.toNat
    · rw [if_pos ha, ha]
      exact Memory.read_write_same _ _ _
    · rw [if_neg ha]
      exact Memory.read_write_other _ _ _ _ ha

theorem mirrorInRange_eq_false {s : State} (h : s.cfg.pageCount ≤ s.ctl.page.toNat ∨ s.cfg.segCount ≤ s.ctl.col.toNat) :
    mirrorInRange s = false := by
  rw [Bool.eq_false_iff, Ne, mirrorInRange_iff]
  exact not_and_or.mpr (h.imp Nat.not_lt_of_le Nat.not_lt_of_le)

/-- Settles O40: outside the geometry the byte voids the mirror. -/
theorem dataByteOutOfRangeVoids : Obligations.DataByteOutOfRangeVoids := by
  intro s v rest later hin hexp hout
  have hr : mirrorInRange (takeByte rest later s) = false := mirrorInRange_eq_false hout
  exact ⟨_, _, _, by rw [step_data hin hexp, takeData_of_void v (.inr hr)]; rfl⟩

theorem takeLost_of_void {s : State} {tag : Tag} (payload : List Byte) (naks : Nat)
    (h : s.ctl.meaning = false ∨ (tag = .data ∧ mirrorInRange s = false)) : takeLost tag payload naks s = voidMirror s := by
  rcases h with h | ⟨rfl, h⟩
  · cases tag <;> simp [takeLost, h]
  · simp [takeLost, h]

/-- Settles O37: command bytes, Data bytes and lost writes each void a mirror without a meaning again. -/
theorem voidMirrorTakesItsBytes : Obligations.VoidMirrorTakesItsBytes := by
  intro s
  refine ⟨fun b i hm hd => ?_, fun v rest later hm hin hexp => ?_, fun tag payload naks later hin hor => ?_⟩
  · have hvoid : exec i s = .next (voidMirror s) := by
      rcases exec_command hd s with hc | ⟨f, -, hc⟩
      · exact hc
      · rw [hc, onMirror_of_void hm]
    exact ⟨_, _, _, hvoid⟩
  · exact ⟨_, _, _, by rw [step_data hin hexp, takeData_of_void (s := takeByte rest later s) v (.inl hm)]; rfl⟩
  · have hlost : takeLost tag payload naks { s with ctl := { s.ctl with inbox := later } } =
        voidMirror { s with ctl := { s.ctl with inbox := later } } :=
      takeLost_of_void payload naks (hor.imp_right fun ⟨htag, hout⟩ => ⟨htag, mirrorInRange_eq_false hout⟩)
    exact ⟨_, _, _, by rw [step_lost hin, hlost]; rfl⟩

/-! ### The cells of a lost Data burst -/

/-- How far column `c` lies behind column `col`, going right and wrapping inside the page. -/
def columnsBehind (segCount col c : Nat) : Nat := (c + segCount - col) % segCount

theorem columnsBehind_self (segCount col : Nat) : columnsBehind segCount col col = 0 := by
  simp [columnsBehind]

/-- One column on, every other column is one nearer. -/
theorem columnsBehind_succ {segCount col c : Nat} (hcol : col < segCount) (hc : c < segCount) (hne : c ≠ col) :
    columnsBehind segCount col c = columnsBehind segCount ((col + 1) % segCount) c + 1 := by
  have hnear {x : Nat} (hx : x ≤ c) : columnsBehind segCount x c = c - x := by
    rw [columnsBehind, show c + segCount - x = c - x + segCount by omega, Nat.add_mod_right, Nat.mod_eq_of_lt (by omega)]
  have hwrap {x : Nat} (hx : c < x) : columnsBehind segCount x c = c + segCount - x := Nat.mod_eq_of_lt (by omega)
  rcases Nat.lt_or_ge c col with hlt | hge
  · rw [hwrap hlt]
    rcases Nat.lt_or_ge (col + 1) segCount with hin | hend
    · rw [Nat.mod_eq_of_lt hin, hwrap (by omega)]
      omega
    · obtain rfl : segCount = col + 1 := by omega
      rw [Nat.mod_self, hnear (Nat.zero_le c)]
      omega
  · rw [hnear hge, Nat.mod_eq_of_lt (show col + 1 < segCount by omega), hnear (by omega)]
    omega

theorem read_forget_none {m : Memory} {a : Nat} (b : Nat) (hm : Memory.wf m = true) (h : Memory.read m a = none) :
    Memory.read (Memory.forget m b) a = none := by
  by_cases hab : a = b
  · rw [hab]
    exact Memory.read_forget_same b hm
  · rw [Memory.read_forget_other m b a hab, h]

theorem read_forgetRow_none {segCount page col n a : Nat} {m : Memory} (hm : Memory.wf m = true)
    (h : Memory.read m a = none) : Memory.read (forgetRow segCount page col n m) a = none := by
  induction n generalizing col m with
  | zero => exact h
  | succ n ih => exact ih (Memory.forget_wf _ hm) (read_forget_none _ hm h)

/-- The `n` cells from the column on are forgotten. -/
theorem read_forgetRow_reached {segCount page col n c : Nat} {m : Memory} (hm : Memory.wf m = true) (hcol : col < segCount)
    (hc : c < segCount) (hn : columnsBehind segCount col c < n) :
    Memory.read (forgetRow segCount page col n m) (gddAddr page c) = none := by
  induction n generalizing col m with
  | zero => omega
  | succ n ih =>
    by_cases hcc : c = col
    · rw [hcc, forgetRow]
      exact read_forgetRow_none (Memory.forget_wf _ hm) (Memory.read_forget_same _ hm)
    · rw [columnsBehind_succ hcol hc hcc] at hn
      exact ih (Memory.forget_wf _ hm) (Nat.mod_lt _ (by omega)) (by omega)

/-- No other cell is. -/
theorem read_forgetRow_other {segCount page col n a : Nat} {m : Memory} (hcol : col < segCount)
    (ha : ∀ c, c < segCount → columnsBehind segCount col c < n → a ≠ gddAddr page c) :
    Memory.read (forgetRow segCount page col n m) a = Memory.read m a := by
  induction n generalizing col m with
  | zero => rfl
  | succ n ih =>
    have hfirst : a ≠ gddAddr page col := ha col hcol (by rw [columnsBehind_self]; omega)
    rw [forgetRow, ih (Nat.mod_lt _ (by omega)), Memory.read_forget_other _ _ _ hfirst]
    intro c hc hn
    by_cases hcc : c = col
    · exact hcc ▸ hfirst
    · exact ha c hc (by rw [columnsBehind_succ hcol hc hcc]; omega)

/-! ### The settings of a lost step of INIT -/

/-- What a lost step of INIT leaves of the settings: every one but that of its own opcode. -/
theorem forgetSettings_initStream {c : Config} {payload : List Byte} (h : payload ∈ initStream c) (d : Nat) (t : Settings) :
    let kept {α : Type} (opcode : Byte) (setting : Settings → α) : Prop :=
      payload.head? ≠ some opcode → setting (forgetSettings d none payload t) = setting t
    kept 0xA8#8 Settings.muxRatio ∧ kept 0xD3#8 Settings.dispOffset ∧ kept 0x40#8 Settings.startLine ∧
    kept 0xA1#8 Settings.segRemap ∧ kept 0xC8#8 Settings.comRemap ∧ kept 0xDA#8 Settings.comPins ∧
    kept 0x81#8 Settings.contrast ∧ kept 0xA4#8 Settings.entireOn ∧ kept 0xA6#8 Settings.inverse ∧
    kept 0xD5#8 Settings.clockDiv ∧ kept 0x8D#8 Settings.chargePump ∧ kept 0xAF#8 Settings.displayOn := by
  have hpair {b v : Byte} {i : Instr} {p : Param} (hd : decodeCmd b = .ok i) (hp : paramOf i = some p) :
      forgetSettings d none [b, v] t = t.forgetParam d p := forgetSettings_pair hd hp d v t
  have hsingle {b : Byte} {i : Instr} (hd : decodeCmd b = .ok i) : forgetSettings d none [b] t = t.forgetCommand d i :=
    forgetSettings_single hd d t
  simp only [initStream, List.mem_cons, List.not_mem_nil, or_false] at h
  rcases h with rfl | rfl | rfl | rfl | rfl | rfl | rfl | rfl | rfl | rfl | rfl | rfl
  · rw [hpair (i := .muxratio) rfl rfl]; simp [Settings.forgetParam, Settings.setParam]
  · rw [hpair (i := .dispoffset) rfl rfl]; simp [Settings.forgetParam, Settings.setParam]
  · rw [hsingle (i := .startline 0#6) rfl]; simp [Settings.forgetCommand]
  · rw [hsingle (i := .segremap1) rfl]; simp [Settings.forgetCommand]
  · rw [hsingle (i := .comscanRemap) rfl]; simp [Settings.forgetCommand]
  · rw [hpair (i := .compins) rfl rfl]; simp [Settings.forgetParam, Settings.setParam]
  · rw [hpair (i := .contrast) rfl rfl]; simp [Settings.forgetParam, Settings.setParam]
  · rw [hsingle (i := .entiredispResume) rfl]; simp [Settings.forgetCommand]
  · rw [hsingle (i := .normal) rfl]; simp [Settings.forgetCommand]
  · rw [hpair (i := .clockdiv) rfl rfl]; simp [Settings.forgetParam, Settings.setParam]
  · rw [hpair (i := .chargepump) rfl rfl]; simp [Settings.forgetParam, Settings.setParam]
  · rw [hsingle (i := .displayon) rfl]; simp [Settings.forgetCommand]

/-- Settles O41: the cells a lost Data burst forgets are those it could have reached, the settings a lost step of INIT forgets are
its own. -/
theorem lostWriteForgetsTheCursor : Obligations.LostWriteForgetsTheCursor := by
  intro s payload naks later hm
  refine ⟨fun hin => ?_, fun hin hc hpage hcol hgdd => ?_⟩
  · refine ⟨Config.freeBits 3 s.draws 0, Config.freeBits 8 s.draws 1,
      forgetSettings s.draws s.ctl.param payload s.ctl.settings, ?_, fun hparam hmem => ?_⟩
    · rw [step_lost hin, takeLost, if_pos hm]
    · rw [hparam]
      exact forgetSettings_initStream hmem s.draws s.ctl.settings
  · have hin' : mirrorInRange { s with ctl := { s.ctl with inbox := later } } = true := (mirrorInRange_iff _).mpr ⟨hpage, hcol⟩
    have hlt (c : Nat) : columnsBehind s.cfg.segCount s.ctl.col.toNat c < s.cfg.segCount := Nat.mod_lt _ (by omega)
    refine ⟨Config.freeBits 3 s.draws 0, Config.freeBits 8 s.draws 1,
      forgetRow s.cfg.segCount s.ctl.page.toNat s.ctl.col.toNat (min (payload.length * naks) s.cfg.segCount) s.ctl.gdd,
      ?_, fun c hreach => ?_, fun a ha => ?_⟩
    · rw [step_lost hin, takeLost, if_pos (Bool.and_eq_true_iff.mpr ⟨hm, hin'⟩)]
    · exact read_forgetRow_reached hgdd hcol hreach.1 (lt_min hreach.2 (hlt c))
    · exact read_forgetRow_other hcol fun c hcs hn => ha c ⟨hcs, (lt_min_iff.mp hn).1⟩

end Sys2Proof.Machine
end

section
/-! PROOF. What each instruction means, said of all states at once, and the requests that send nothing. -/
namespace Sys2Proof.Machine

/-! ### The meaning of an instruction -/

/-- What an instruction of format HOSTREQ does, the same in every state: run a burst list, answer a reserved selector, or nothing. -/
inductive RequestMeaning (i : Instr) : Prop
  | accepted (load : Latches → Latches) (buf : State → List Byte)
      (hbuf : ∀ s t : State, t.callerBuf = s.callerBuf → buf t = buf s) (h : ∀ s, exec i s = accept load (buf s) s)
  | illegal (sel : BitVec 4) (h : ∀ s, exec i s = illegalRequest sel s)
  | refused (h : ∀ s t, exec i s ≠ .next t)

/-- What an instruction of the formats CTRL and CMD does, the same in every state: one thing to the receiver or to the mirror. -/
inductive WireMeaning (i : Instr) : Prop
  | control (cont : Bool) (tag : Tag) (h : ∀ s, exec i s = .next (takeControl cont tag s))
  | void (h : ∀ s, exec i s = .next (voidMirror s))
  | update (f : Controller → Controller) (h : ∀ s, exec i s = .next (onMirror f s))

theorem execWrite_ne_next {buf : List Byte} {startPage pageSpan columnSpan : Byte}
    (h : bufferCovers buf startPage pageSpan columnSpan = false) (startColumn : Byte) (s t : State) :
    exec (.write buf startPage pageSpan startColumn columnSpan) s ≠ .next t := by
  simp only [exec, execWrite, h]
  by_cases hidle : s.seq = .idle <;> simp [hidle]

theorem exec_meaning (i : Instr) : RequestMeaning i ∨ WireMeaning i := by
  cases i
  case ctrlCmdLast | ctrlDataLast | ctrlCmdMore | ctrlDataMore => exact .inr (.control _ _ fun _ => rfl)
  case addrmode | colrange | pagerange | scrollsetup26 | scrollsetup27 | scrollsetupV | scrolloff | scrollon | vscrollarea |
      precharge | vcomh => exact .inr (.void fun _ => rfl)
  case getaddr sa0 => exact .inl (.accepted (fun l => { l with op := .getaddr, sa0 := sa0 }) State.callerBuf (fun _ _ h => h) fun _ => rfl)
  case seek page column =>
    exact .inl (.accepted (fun l => { l with op := .seek, page := page, column := column }) State.callerBuf (fun _ _ h => h) fun _ => rfl)
  case init => exact .inl (.accepted (fun l => { l with op := .init }) State.callerBuf (fun _ _ h => h) fun _ => rfl)
  case clear => exact .inl (.accepted (fun l => { l with op := .clear }) State.callerBuf (fun _ _ h => h) fun _ => rfl)
  case frameC buf =>
    exact .inl (.accepted (fun l => { l with op := .frameC, tag := .command, bufLen := buf.length }) (fun _ => buf) (fun _ _ _ => rfl)
      fun _ => rfl)
  case frameD buf =>
    exact .inl (.accepted (fun l => { l with op := .frameD, tag := .data, bufLen := buf.length }) (fun _ => buf) (fun _ _ _ => rfl)
      fun _ => rfl)
  case write buf startPage pageSpan startColumn columnSpan =>
    cases hcover : bufferCovers buf startPage pageSpan columnSpan with
    | false => exact .inl (.refused (execWrite_ne_next hcover startColumn))
    | true => exact .inl (.accepted _ (fun _ => buf) (fun _ _ _ => rfl) fun _ => if_pos hcover)
  case reserved7 | reserved8F => exact .inl (.illegal _ fun _ => rfl)
  all_goals exact .inr (.update _ fun _ => rfl)

/-! ### Requests without a burst, and requests that are refused -/

/-- The two addresses of the part, by the operand of GETADDR (spec 41 R129). -/
theorem addressOf_eq (sa0 : BitVec 1) : addressOf sa0 = if sa0 = 0#1 then 0x3C#7 else 0x3D#7 :=
  devAddr_eq { Config.reference with sa0 := sa0 }

/-- Settles O15: the burst list of GETADDR is empty, so it ends with its response at once. -/
theorem getaddrAnswersAddress : Obligations.GetaddrAnswersAddress := by
  intro sa0 s hidle
  simp only [exec, execGetaddr, accept, hidle, if_true, plan, runItems, finish, addressOf_eq]

/-- Settles O27: the short buffer fails the check in front of the operation. -/
theorem shortBufferRefused : Obligations.ShortBufferRefused := by
  intro buf startPage pageSpan startColumn columnSpan s hidle hpages hcolumns hshort
  have hcover : bufferCovers buf startPage pageSpan columnSpan = false := by
    have hp : pageSpan ≠ 0#8 := fun h => by simp [h] at hpages
    have hc : columnSpan ≠ 0#8 := fun h => by simp [h] at hcolumns
    simpa [bufferCovers, hp, hc] using hshort
  simp only [exec, execWrite, hcover, hidle, if_true, Bool.false_eq_true, if_false]

theorem illegalRequest_of_idle {s : State} (hidle : s.seq = .idle) (sel : BitVec 4) :
    illegalRequest sel s = .next { s with rsp := { code := .illegalRequest, info := .selector sel } } := by
  simp only [illegalRequest, hidle, if_true, raise]

theorem reserved8F_selector (low : BitVec 3) : 0x8#4 ||| low.setWidth 4 = BitVec.ofNat 4 (8 + low.toNat) := by
  revert low
  decide

/-- Settles O28: an idle DPF answers the selector itself. -/
theorem reservedSelectorsAnswered : Obligations.ReservedSelectorsAnswered := by
  refine fun s hidle => ⟨illegalRequest_of_idle hidle _, fun low => ?_⟩
  rw [← reserved8F_selector]
  exact illegalRequest_of_idle hidle _

/-- Settles O29: each of the three things a request can do is refused while `seq` is not idle. -/
theorem requestWhileRunningRefused : Obligations.RequestWhileRunningRefused := by
  intro s r k i hseq hd
  obtain rfl : decodeRequest r = i := Except.ok.inj hd
  have hrun : s.seq ≠ .idle := by simp [hseq]
  rcases exec_request r s with ⟨load, buf, hr⟩ | ⟨sel, hr⟩ | ⟨-, hr⟩
  · exact hr.trans (if_neg hrun)
  · exact hr.trans (if_neg hrun)
  · exact hr.trans (if_neg hrun)

theorem WireMeaning.answers {i : Instr} (h : WireMeaning i) (s : State) : ∃ t, exec i s = .next t := by
  cases h with
  | control cont tag h => exact ⟨_, h s⟩
  | void h => exact ⟨_, h s⟩
  | update f h => exact ⟨_, h s⟩

/-- A request means what requests mean: while an operation runs it is refused, and a wire byte never is. -/
theorem request_meaning (r : Request) : RequestMeaning (decodeRequest r) := by
  refine (exec_meaning (decodeRequest r)).resolve_right fun hwire => ?_
  obtain ⟨t, ht⟩ := hwire.answers { State.reset with seq := .running 0 }
  have hrefused : exec (decodeRequest r) { State.reset with seq := .running 0 } = .refused .requestWhileRunning :=
    requestWhileRunningRefused _ r 0 _ rfl rfl
  cases hrefused.symm.trans ht

/-! ### Outcomes in portions -/

theorem onAck_withAnswers (it : Item) (s : State) (as : List Attempt) :
    it.onAck { s with answers := as } = { it.onAck s with answers := as } := by
  match it with
  | .raw .command bytes => simp only [Item.onAck, unsyncAfterRaw]; split <;> rfl
  | .raw .data bytes => simp only [Item.onAck, advanceCursor]; split <;> [rfl; split <;> rfl]
  | .seek page column => rfl
  | .initStep bytes => rfl

theorem nextBurst_withAnswers (s : State) (as : List Attempt) :
    nextBurst { s with answers := as } = { nextBurst s with answers := as } := by
  cases hs : s.seq <;> simp [nextBurst, hs]

/-- The state an acknowledged write leaves is in front of the next burst of the same list. -/
theorem drop_succ_of_drop {l rest : List Item} {it : Item} {k : Nat} (h : l.drop k = it :: rest) : l.drop (k + 1) = rest := by
  rw [List.drop_add_one_eq_tail_drop, h, List.tail_cons]

/-- A burst that no check stops and that is not empty is written. -/
theorem startItem_write {it : Item} {s : State}
    (hstrict : ∀ page column, it = .seek page column → strictRejects s.cfg page column = false)
    (hsize : it.payload.length ≤ s.cfg.maxBurst) (hne : it.payload ≠ []) :
    startItem it s = transmit it { bytes := encodeBurst s.cfg.policy it.tag it.payload, naks := 0 } s := by
  rcases startItem_cases it s with ⟨page, column, hit, hr, -⟩ | ⟨-, ⟨hbig, -⟩ | ⟨-, hnil, -⟩ | ⟨-, -, h⟩⟩
  · exact absurd hr (by simp [hstrict page column hit])
  · exact absurd hsize (Nat.not_le_of_lt hbig)
  · exact absurd hnil hne
  · exact h

/-- A burst with the outcomes `b` decided behind those of `s`: completed, it leaves them; waiting, it goes on with them. -/
theorem startItem_append_answers (it : Item) (s : State) (b : List Attempt) :
    (∃ u, startItem it s = .done u ∧ u.seq = s.seq ∧
      startItem it { s with answers := s.answers ++ b } = .done { u with answers := u.answers ++ b }) ∨
    (∃ code info u, startItem it s = .raised code info u) ∨
    (∃ w, startItem it s = .blocked { s with tx := some w, answers := [] } ∧
      startItem it { s with answers := s.answers ++ b } = transmit it w { s with tx := some w, answers := b }) := by
  rcases startItem_cases it s with ⟨_, _, -, -, h⟩ | ⟨hstrict, ⟨-, h⟩ | ⟨-, hnil, h⟩ | ⟨hsize, hne, h⟩⟩
  · exact .inr (.inl ⟨_, _, _, h⟩)
  · exact .inr (.inl ⟨_, _, _, h⟩)
  · rw [onAck_of_payload_nil hnil] at h
    exact .inl ⟨s, h, rfl, emptyBurstSendsNothing it _ hnil⟩
  · have h' := startItem_write (s := { s with answers := s.answers ++ b }) hstrict hsize hne
    rcases transmit_cases it { bytes := encodeBurst s.cfg.policy it.tag it.payload, naks := 0 } s with
      ⟨n, as, ha, ht⟩ | ⟨n, as, -, ht⟩ | ⟨n, ha, ht⟩
    · refine .inl ⟨_, h.trans ht, by simp, h'.trans ?_⟩
      simp only [transmit, attempts_append, ha, ← onAck_withAnswers, onAck_answers, record_answers]
      rfl
    · exact .inr (.inl ⟨_, _, _, h.trans ht⟩)
    · refine .inr (.inr ⟨_, h.trans ht, h'.trans ?_⟩)
      simp only [transmit, attempts_append, ha]

/-- If the run of a burst list is left waiting, the run with the outcomes `b` behind is that run resumed with `b`. -/
theorem runItems_append_answers {items : List Item} {s : State} {k : Nat} (b : List Attempt) (hseq : s.seq = .running k)
    (hdrop : (plan s.cfg s.lat s.callerBuf).drop k = items) (hrun : (runItems items s).seq ≠ .idle) :
    runItems items { s with answers := s.answers ++ b } = resume { runItems items s with answers := b } := by
  induction items generalizing s k with
  | nil => exact absurd (finish_seq s) hrun
  | cons it rest ih =>
    have hframe := startItem_frame it s
    rw [runItems_cons] at hrun ⊢
    rw [runItems_cons]
    rcases startItem_append_answers it s b with ⟨u, h, hsu, h'⟩ | ⟨_, _, _, h⟩ | ⟨w, h, h'⟩ <;> rw [h] at hrun hframe ⊢
    · have hplan : plan u.cfg u.lat u.callerBuf = plan s.cfg s.lat s.callerBuf :=
        congr (congr (congrArg plan hframe.cfg) hframe.lat) hframe.callerBuf
      have hdrop' : (plan (nextBurst u).cfg (nextBurst u).lat (nextBurst u).callerBuf).drop (k + 1) = rest := by
        rw [nextBurst_cfg, nextBurst_lat, nextBurst_callerBuf, hplan, drop_succ_of_drop hdrop]
      rw [h', afterBurst, afterBurst, nextBurst_withAnswers, ← ih (nextBurst_seq (hsu.trans hseq)) hdrop' hrun, nextBurst_answers]
    · exact absurd rfl hrun
    · have hitem : (plan s.cfg s.lat s.callerBuf)[k]? = some it := by rw [← List.head?_drop, hdrop, List.head?_cons]
      rw [h', afterBurst, resume_of_pending (s := { s with tx := some w, answers := b }) hseq hitem rfl, drop_succ_of_drop hdrop]

theorem accept_append_answers {load : Latches → Latches} {buf : List Byte} {s t : State} (b : List Attempt)
    (hidle : s.seq = .idle) (h : accept load buf s = .next t) (hrun : t.seq ≠ .idle) :
    accept load buf { s with answers := s.answers ++ b } = .next (resume { t with answers := b }) := by
  obtain rfl := Host.Outcome.next.inj ((if_pos hidle).symm.trans h)
  refine (if_pos hidle).trans (congrArg Host.Outcome.next ?_)
  exact runItems_append_answers (s := { s with lat := load s.lat, callerBuf := buf, seq := .running 0 }) b rfl List.drop_zero
    hrun

/-- Settles O14: only a request can leave DPF running, and its burst list goes on from where the first portion ended. -/
theorem outcomesTogetherOrInPortions : Obligations.OutcomesTogetherOrInPortions := by
  intro i s t k a b h hidle hk
  have hrun : t.seq ≠ .idle := by simp [hk]
  have hkeeps {u : State} (hu : exec i { s with answers := a } = .next u) (hseq : u.seq = .idle) : False :=
    hrun (Host.Outcome.next.inj (hu.symm.trans h) ▸ hseq)
  rcases exec_meaning i with hreq | hwire
  · cases hreq with
    | accepted load buf hbuf hi =>
      have hsame : buf { s with answers := a ++ b } = buf { s with answers := a } := hbuf _ _ rfl
      rw [hi] at h
      rw [hi, hsame]
      exact accept_append_answers (s := { s with answers := a }) b hidle h hrun
    | illegal sel hi => exact (hkeeps ((hi _).trans (if_pos hidle)) rfl).elim
    | refused hi => exact absurd h (hi _ _)
  · cases hwire with
    | control cont tag hi => exact (hkeeps (hi _) hidle).elim
    | void hi => exact (hkeeps (hi _) hidle).elim
    | update f hi => exact (hkeeps (hi _) ((onMirror_seq f _).trans hidle)).elim

end Sys2Proof.Machine
end

section
/-! PROOF. What a run of DPF does not depend on: its bookkeeping registers (spec 10 R35) and the controller (spec 10 R39, 20 R57).
Both are one lockstep argument about two runs, made once for a relation between their states. -/
namespace Sys2Proof.Machine

/-! ### Going on with an operation, case by case -/

theorem resume_of_idle {s : State} (h : s.seq = .idle) : resume s = s := by
  simp only [resume, h]

theorem resume_of_write {s : State} {k : Nat} {it : Item} {rest : List Item} {w : PendingWrite} (hseq : s.seq = .running k)
    (hdrop : (plan s.cfg s.lat s.callerBuf).drop k = it :: rest) (htx : s.tx = some w) :
    resume s = afterBurst rest (transmit it w s) := by
  have hitem : (plan s.cfg s.lat s.callerBuf)[k]? = some it := by rw [← List.head?_drop, hdrop, List.head?_cons]
  rw [resume_of_pending hseq hitem htx, drop_succ_of_drop hdrop]

theorem resume_of_no_write {s : State} {k : Nat} (hseq : s.seq = .running k)
    (h : (plan s.cfg s.lat s.callerBuf).drop k = [] ∨ s.tx = none) :
    resume s = runItems ((plan s.cfg s.lat s.callerBuf).drop k) s := by
  rcases resume_cases s with ⟨hidle, -⟩ | ⟨k', it, rest, w, hseq', hdrop, htx, -⟩ | ⟨k', hseq', -, hs⟩
  · cases hidle.symm.trans hseq
  · obtain rfl : k = k' := Seq.running.inj (hseq.symm.trans hseq')
    simp [hdrop, htx] at h
  · obtain rfl : k = k' := Seq.running.inj (hseq.symm.trans hseq')
    exact hs

/-! ### Two runs in lockstep -/

/-- Two states in `R` hold the same of all that decides how a burst list runs, and every update of a run keeps them in `R`. -/
structure Lockstep (R : State → State → Prop) : Prop where
  cfg : ∀ {s t}, R s t → t.cfg = s.cfg
  lat : ∀ {s t}, R s t → t.lat = s.lat
  callerBuf : ∀ {s t}, R s t → t.callerBuf = s.callerBuf
  seq : ∀ {s t}, R s t → t.seq = s.seq
  tx : ∀ {s t}, R s t → t.tx = s.tx
  answers : ∀ {s t}, R s t → t.answers = s.answers
  latch : ∀ {s t} lat buf, R s t →
    R { s with lat := lat, callerBuf := buf, seq := .running 0 } { t with lat := lat, callerBuf := buf, seq := .running 0 }
  transport : ∀ {s t} tx as, R s t → R { s with tx := tx, answers := as } { t with tx := tx, answers := as }
  record : ∀ {s t} bytes naks r d, R s t → R (record bytes naks r d s) (record bytes naks r d t)
  onAck : ∀ {s t} (it : Item), R s t → R (it.onAck s) (it.onAck t)
  onTimeout : ∀ {s t} (it : Item), R s t → R (it.onTimeout s) (it.onTimeout t)
  nextBurst : ∀ {s t}, R s t → R (nextBurst s) (nextBurst t)
  raise : ∀ {s t} code info, R s t → R (raise code info s) (raise code info t)
  finish : ∀ {s t}, R s t → R (finish s) (finish t)

/-- Two bursts end in the same way, in states of `R`. -/
inductive BurstEnd.Both (R : State → State → Prop) : BurstEnd → BurstEnd → Prop
  | done {s t : State} (h : R s t) : Both R (.done s) (.done t)
  | raised {s t : State} (code : Code) (info : Info) (h : R s t) : Both R (.raised code info s) (.raised code info t)
  | blocked {s t : State} (h : R s t) : Both R (.blocked s) (.blocked t)

/-- The second outcome follows the first: where the first is a next state, so is the second, and the two are in `R`. -/
def Follows (R : State → State → Prop) (o o' : Host.Outcome State Fault Refusal) : Prop :=
  ∀ s, o = .next s → ∃ t, o' = .next t ∧ R s t

theorem Follows.next {R : State → State → Prop} {s t : State} (h : R s t) : Follows R (.next s) (.next t) := by
  rintro _ ⟨⟩
  exact ⟨t, rfl, h⟩

namespace Lockstep

variable {R : State → State → Prop} {s t : State}

theorem transmit (hR : Lockstep R) (h : R s t) (it : Item) (w : PendingWrite) :
    (Machine.transmit it w s).Both R (Machine.transmit it w t) := by
  have hsame : attempts t.cfg.retryLimit w.naks t.answers = attempts s.cfg.retryLimit w.naks s.answers := by
    rw [hR.cfg h, hR.answers h]
  rcases ha : attempts s.cfg.retryLimit w.naks s.answers with ⟨n, as⟩ | ⟨n, as⟩ | n <;>
    simp only [Machine.transmit, hsame, ha]
  · exact .done (hR.onAck it (hR.record _ _ _ _ (hR.transport none as h)))
  · exact .raised _ _ (hR.onTimeout it (hR.record _ _ _ _ (hR.transport none as h)))
  · exact .blocked (hR.transport _ _ h)

theorem startItem (hR : Lockstep R) (h : R s t) (it : Item) :
    (Machine.startItem it s).Both R (Machine.startItem it t) := by
  have hcfg := hR.cfg h
  have hburst (bytes : List Byte) : (Machine.burst bytes it s).Both R (Machine.burst bytes it t) := by
    simp only [Machine.burst, hcfg]
    split
    · exact .raised _ _ h
    split
    · exact .done (hR.onAck it h)
    · exact hR.transmit h it _
  cases it with
  | seek page column =>
    simp only [Machine.startItem, hcfg]
    split
    · exact .raised _ _ h
    · exact hburst _
  | raw tag bytes => exact hburst bytes
  | initStep bytes => exact hburst bytes

theorem afterBurst (hR : Lockstep R) {rest : List Item} {e e' : BurstEnd} (h : e.Both R e')
    (hrest : ∀ {s t}, R s t → R (runItems rest s) (runItems rest t)) :
    R (Machine.afterBurst rest e) (Machine.afterBurst rest e') := by
  cases h with
  | done h => exact hrest (hR.nextBurst h)
  | raised code info h => exact hR.raise code info h
  | blocked h => exact h

theorem runItems (hR : Lockstep R) (h : R s t) (items : List Item) : R (Machine.runItems items s) (Machine.runItems items t) := by
  induction items generalizing s t with
  | nil => exact hR.finish h
  | cons it rest ih =>
    rw [runItems_cons, runItems_cons]
    exact hR.afterBurst (hR.startItem h it) ih

theorem plan (hR : Lockstep R) (h : R s t) :
    Machine.plan t.cfg t.lat t.callerBuf = Machine.plan s.cfg s.lat s.callerBuf :=
  congr (congr (congrArg Machine.plan (hR.cfg h)) (hR.lat h)) (hR.callerBuf h)

theorem resume (hR : Lockstep R) (h : R s t) : R (Machine.resume s) (Machine.resume t) := by
  have hplan := hR.plan h
  rcases resume_cases s with ⟨hidle, hs⟩ | ⟨k, it, rest, w, hseq, hdrop, htx, hs⟩ | ⟨k, hseq, hor, hs⟩ <;> rw [hs]
  · rw [resume_of_idle ((hR.seq h).trans hidle)]
    exact h
  · rw [resume_of_write ((hR.seq h).trans hseq) (hplan ▸ hdrop) ((hR.tx h).trans htx)]
    exact hR.afterBurst (hR.transmit h it w) (fun h => hR.runItems h rest)
  · rw [resume_of_no_write ((hR.seq h).trans hseq) (by rw [hplan, hR.tx h]; exact hor), hplan]
    exact hR.runItems h _

theorem accept (hR : Lockstep R) (h : R s t) (load : Latches → Latches) (buf : List Byte) :
    Follows R (Machine.accept load buf s) (Machine.accept load buf t) := by
  rcases accept_cases load buf s with ⟨hidle, hs⟩ | ⟨-, hs⟩
  · rcases accept_cases load buf t with ⟨-, ht⟩ | ⟨hrun, -⟩
    · rw [hs, ht, hR.lat h, show Machine.plan t.cfg = Machine.plan s.cfg by rw [hR.cfg h]]
      exact .next (hR.runItems (hR.latch _ _ h) _)
    · exact absurd ((hR.seq h).trans hidle) hrun
  · rw [hs]
    exact fun _ h => nomatch h

theorem illegalRequest (hR : Lockstep R) (h : R s t) (sel : BitVec 4) :
    Follows R (Machine.illegalRequest sel s) (Machine.illegalRequest sel t) := by
  unfold Machine.illegalRequest
  rw [hR.seq h]
  split
  · exact .next (hR.raise _ _ h)
  · exact fun _ h => nomatch h

/-- A request reads the caller's buffer at most. -/
theorem request (hR : Lockstep R) (h : R s t) {i : Instr} (hi : RequestMeaning i) : Follows R (exec i s) (exec i t) := by
  cases hi with
  | accepted load buf hbuf hi =>
    rw [hi, hi, hbuf s t (hR.callerBuf h)]
    exact hR.accept h load _
  | illegal sel hi =>
    rw [hi, hi]
    exact hR.illegalRequest h sel
  | refused hi => exact fun u hu => absurd hu (hi s u)

end Lockstep

/-! ### What an acknowledged burst and the end of an operation write -/

/-- An acknowledged burst writes the cursor and its flag, from the configuration and what they were, and nothing else. -/
theorem onAck_eq_of_cursor (it : Item) {s t : State} (hcfg : t.cfg = s.cfg) (hpage : t.curPage = s.curPage)
    (hcol : t.curCol = s.curCol) (hsync : t.synced = s.synced) :
    it.onAck t = { t with curPage := (it.onAck s).curPage, curCol := (it.onAck s).curCol, synced := (it.onAck s).synced } := by
  match it with
  | .raw .command bytes =>
    by_cases hlen : 1 ≤ bytes.length <;> simp [Item.onAck, unsyncAfterRaw, hlen, ← hpage, ← hcol, ← hsync]
  | .raw .data bytes =>
    rcases Nat.eq_zero_or_pos bytes.length with h0 | hpos
    · simp [Item.onAck, advanceCursor, h0, ← hpage, ← hcol, ← hsync]
    · simp [Item.onAck, advanceCursor_eq (Nat.ne_of_gt hpos), hcfg, ← hpage, hcol, hsync]
  | .seek page column => simp only [Item.onAck, setCursor, hcfg]
  | .initStep bytes => simp only [Item.onAck, ← hpage, ← hcol, ← hsync]

theorem onAck_withController (it : Item) (s : State) (c : Controller) :
    it.onAck { s with ctl := c } = { it.onAck s with ctl := c } := by
  rw [onAck_eq_of_cursor it (s := s) (t := { s with ctl := c }) rfl rfl rfl rfl]
  simp

theorem onTimeout_eq (it : Item) (s : State) : it.onTimeout s =
    { s with synced := false, initState := (it.onTimeout s).initState } := by
  cases it <;> rfl

/-- The response of an operation that ran to its end is the latches'. -/
def finishResponse (l : Latches) : Response :=
  { code := .ok, info := if l.op = .getaddr then .device (addressOf l.sa0) else .none }

theorem finish_eq (s : State) : finish s =
    { s with rsp := finishResponse s.lat, seq := .idle,
             initState := if s.lat.op = .init then initStateAfterOk s.initState else s.initState } := by
  cases hop : s.lat.op <;> simp [finish, finishResponse, hop]

/-- The sequencer's move to the next burst. -/
def Seq.next : Seq → Seq
  | .idle => .idle
  | .running k => .running (k + 1)

theorem nextBurst_eq (s : State) : nextBurst s = { s with seq := s.seq.next } := by
  unfold nextBurst
  split
  next h => rw [h, Seq.next, ← h]
  next k h => rw [h, Seq.next]

/-! ### The bookkeeping registers -/

/-- `s` with other bookkeeping registers. -/
def State.rebook (s : State) (mode : AddrMode) (page : BitVec 3) (col : Byte) (sync : Bool) (ini : InitState) : State :=
  { s with addrMode := mode, curPage := page, curCol := col, synced := sync, initState := ini }

/-- The two states differ in the bookkeeping registers at most. -/
def SameButBookkeeping (s t : State) : Prop := ∃ mode page col sync ini, t = s.rebook mode page col sync ini

theorem sameButBookkeeping_lockstep : Lockstep SameButBookkeeping where
  cfg := by rintro s _ ⟨_, _, _, _, _, rfl⟩; rfl
  lat := by rintro s _ ⟨_, _, _, _, _, rfl⟩; rfl
  callerBuf := by rintro s _ ⟨_, _, _, _, _, rfl⟩; rfl
  seq := by rintro s _ ⟨_, _, _, _, _, rfl⟩; rfl
  tx := by rintro s _ ⟨_, _, _, _, _, rfl⟩; rfl
  answers := by rintro s _ ⟨_, _, _, _, _, rfl⟩; rfl
  latch := by rintro s _ lat buf ⟨_, _, _, _, _, rfl⟩; exact ⟨_, _, _, _, _, rfl⟩
  transport := by rintro s _ tx as ⟨_, _, _, _, _, rfl⟩; exact ⟨_, _, _, _, _, rfl⟩
  record := by rintro s _ bytes naks r d ⟨_, _, _, _, _, rfl⟩; exact ⟨_, _, _, _, _, rfl⟩
  onAck := by
    rintro s _ it ⟨mode, page, col, sync, ini, rfl⟩
    rw [onAck_eq_of_cursor it (s := s) rfl rfl rfl rfl, onAck_eq_of_cursor it (s := s.rebook mode page col sync ini) rfl rfl rfl rfl]
    exact ⟨_, _, _, _, _, rfl⟩
  onTimeout := by
    rintro s _ it ⟨_, _, _, _, _, rfl⟩
    rw [onTimeout_eq, onTimeout_eq it (s.rebook _ _ _ _ _)]
    exact ⟨_, _, _, _, _, rfl⟩
  nextBurst := by
    rintro s _ ⟨_, _, _, _, _, rfl⟩
    rw [nextBurst_eq, nextBurst_eq]
    exact ⟨_, _, _, _, _, rfl⟩
  raise := by rintro s _ code info ⟨_, _, _, _, _, rfl⟩; exact ⟨_, _, _, _, _, rfl⟩
  finish := by
    rintro s _ ⟨_, _, _, _, _, rfl⟩
    rw [finish_eq, finish_eq]
    exact ⟨_, _, _, _, _, rfl⟩

/-! ### The controller beside the bookkeeping registers -/

theorem SameButBookkeeping.ite {c : Prop} [Decidable c] {s s' t t' : State} (h : SameButBookkeeping s t)
    (h' : SameButBookkeeping s' t') : SameButBookkeeping (if c then s else s') (if c then t else t') := by
  by_cases hc : c
  · simpa only [if_pos hc] using h
  · simpa only [if_neg hc] using h'

theorem voidMirror_rebook {s t : State} (h : SameButBookkeeping s t) : SameButBookkeeping (voidMirror s) (voidMirror t) := by
  obtain ⟨_, _, _, _, _, rfl⟩ := h
  exact ⟨_, _, _, _, _, rfl⟩

theorem onMirror_rebook (f : Controller → Controller) {s t : State} (h : SameButBookkeeping s t) :
    SameButBookkeeping (onMirror f s) (onMirror f t) := by
  have hvoid := voidMirror_rebook h
  obtain ⟨_, _, _, _, _, rfl⟩ := h
  exact .ite ⟨_, _, _, _, _, rfl⟩ hvoid

theorem takeData_rebook (v : Byte) {s t : State} (h : SameButBookkeeping s t) :
    SameButBookkeeping (takeData v s) (takeData v t) := by
  have hvoid := voidMirror_rebook h
  obtain ⟨_, _, _, _, _, rfl⟩ := h
  exact .ite ⟨_, _, _, _, _, rfl⟩ hvoid

theorem takeLost_rebook (tag : Tag) (payload : List Byte) (naks : Nat) {s t : State} (h : SameButBookkeeping s t) :
    SameButBookkeeping (takeLost tag payload naks s) (takeLost tag payload naks t) := by
  have hvoid := voidMirror_rebook h
  obtain ⟨_, _, _, _, _, rfl⟩ := h
  cases tag with
  | command => exact .ite ⟨_, _, _, _, _, rfl⟩ hvoid
  | data => exact .ite ⟨_, _, _, _, _, rfl⟩ hvoid

theorem drawAttempt_rebook {s t : State} (h : SameButBookkeeping s t) : SameButBookkeeping (drawAttempt s) (drawAttempt t) := by
  obtain ⟨_, _, _, _, _, rfl⟩ := h
  exact .ite ⟨_, _, _, _, _, rfl⟩ ⟨_, _, _, _, _, rfl⟩

theorem takeByte_rebook (rest : List Byte) (later : List Delivery) {s t : State} (h : SameButBookkeeping s t) :
    SameButBookkeeping (takeByte rest later s) (takeByte rest later t) := by
  obtain ⟨_, _, _, _, _, rfl⟩ := h
  exact ⟨_, _, _, _, _, rfl⟩

theorem exec_rebook (i : Instr) {s t : State} (h : SameButBookkeeping s t) : Follows SameButBookkeeping (exec i s) (exec i t) := by
  rcases exec_meaning i with hreq | hwire
  · exact sameButBookkeeping_lockstep.request h hreq
  · cases hwire with
    | control cont tag hi =>
      obtain ⟨_, _, _, _, _, rfl⟩ := h
      rw [hi, hi]
      exact .next ⟨_, _, _, _, _, rfl⟩
    | void hi =>
      rw [hi, hi]
      exact .next (voidMirror_rebook h)
    | update f hi =>
      rw [hi, hi]
      exact .next (onMirror_rebook f h)

/-- What a step works on, up to the bookkeeping registers: the same word, or the same move of an agent. -/
inductive Fetched.Both : Fetched → Fetched → Prop
  | word (w : InstrWord) {s t : State} (h : SameButBookkeeping s t) : Both (.word w s) (.word w t)
  | internal {s t : State} (h : SameButBookkeeping s t) : Both (.internal s) (.internal t)

theorem fetchByte_rebook (expect : Expect) (param : Option Param) (b : Byte) {s t : State} (h : SameButBookkeeping s t) :
    (fetchByte expect param b s).Both (fetchByte expect param b t) := by
  match expect, param with
  | .control, _ => exact .word _ h
  | .payload .data, _ => exact .internal (takeData_rebook b h)
  | .payload .command, some p => exact .internal (onMirror_rebook _ h)
  | .payload .command, none => exact .word _ h

theorem resume_rebook {s t : State} (h : SameButBookkeeping s t) :
    SameButBookkeeping (resume (drawAttempt s)) (resume (drawAttempt t)) :=
  sameButBookkeeping_lockstep.resume (drawAttempt_rebook h)

theorem fetch_rebook {s t : State} (h : SameButBookkeeping s t) : (fetch s).Both (fetch t) := by
  have hresume := resume_rebook h
  have htake (rest : List Byte) (later : List Delivery) := takeByte_rebook rest later h
  obtain ⟨mode, page, col, sync, ini, rfl⟩ := h
  have hctl : (s.rebook mode page col sync ini).ctl = s.ctl := rfl
  have hseq : (s.rebook mode page col sync ini).seq = s.seq := rfl
  have hhost : (s.rebook mode page col sync ini).host = s.host := rfl
  rcases hin : s.ctl.inbox with _ | ⟨⟨_ | ⟨b, rest⟩⟩ | ⟨tag, payload, naks⟩, later⟩
  · rcases hs : s.seq with _ | k
    · rcases hh : s.host with _ | ⟨r, later⟩
      · simp only [fetch, hctl, hseq, hhost, hin, hs, hh]
        exact .internal ⟨_, _, _, _, _, rfl⟩
      · simp only [fetch, hctl, hseq, hhost, hin, hs, hh]
        exact .word _ ⟨_, _, _, _, _, rfl⟩
    · simp only [fetch, hctl, hseq, hin, hs]
      exact .internal hresume
  · simp only [fetch, hctl, hin]
    exact .internal ⟨_, _, _, _, _, rfl⟩
  · simp only [fetch, hctl, hin]
    exact fetchByte_rebook _ _ b (htake rest later)
  · simp only [fetch, hctl, hin]
    exact .internal (takeLost_rebook tag payload naks ⟨_, _, _, _, _, rfl⟩)

theorem step_rebook {s t : State} (h : SameButBookkeeping s t) : Follows SameButBookkeeping (step s) (step t) := by
  have hfetch := fetch_rebook h
  unfold step
  generalize fetch s = f, fetch t = g at hfetch ⊢
  cases hfetch with
  | internal h => exact .next h
  | word w h =>
    dsimp only
    cases decode w with
    | ok i => exact exec_rebook i h
    | error e =>
      cases e with
      | unlistedCommandByte b => exact .next (voidMirror_rebook h)
      | reservedControlByte b => exact fun _ h => nomatch h

/-- Settles O54: what the second run differs in are the bookkeeping registers still. -/
theorem wireIndependentOfBookkeeping : Obligations.WireIndependentOfBookkeeping := by
  intro s t mode page col sync ini
  have hsame : SameButBookkeeping s (s.rebook mode page col sync ini) := ⟨_, _, _, _, _, rfl⟩
  refine ⟨fun i h => ?_, fun h => ?_⟩
  · obtain ⟨_, ht, _, _, _, _, _, rfl⟩ := exec_rebook i hsame t h
    exact ⟨_, ht, rfl, rfl, rfl, rfl, rfl⟩
  · obtain ⟨_, ht, _, _, _, _, _, rfl⟩ := step_rebook hsame t h
    exact ⟨_, ht, rfl, rfl, rfl, rfl, rfl⟩

/-! ### The controller -/

/-- `t` is `s` with the registers of `c` where `s` has those of `c₀`, the same deliveries behind both inboxes. -/
def SameButController (c₀ c : Controller) (s t : State) : Prop :=
  ∃ ds, s.ctl = { c₀ with inbox := c₀.inbox ++ ds } ∧ t = { s with ctl := { c with inbox := c.inbox ++ ds } }

theorem sameButController_lockstep (c₀ c : Controller) : Lockstep (SameButController c₀ c) where
  cfg := by rintro s _ ⟨_, -, rfl⟩; rfl
  lat := by rintro s _ ⟨_, -, rfl⟩; rfl
  callerBuf := by rintro s _ ⟨_, -, rfl⟩; rfl
  seq := by rintro s _ ⟨_, -, rfl⟩; rfl
  tx := by rintro s _ ⟨_, -, rfl⟩; rfl
  answers := by rintro s _ ⟨_, -, rfl⟩; rfl
  latch := by rintro s _ lat buf ⟨ds, hs, rfl⟩; exact ⟨ds, hs, rfl⟩
  transport := by rintro s _ tx as ⟨ds, hs, rfl⟩; exact ⟨ds, hs, rfl⟩
  record := by
    rintro s _ bytes naks r d ⟨ds, hs, rfl⟩
    exact ⟨ds ++ [d], by simp [hs], by simp [record]⟩
  onAck := by
    rintro s _ it ⟨ds, hs, rfl⟩
    exact ⟨ds, by simpa using hs, onAck_withController it s _⟩
  onTimeout := by
    rintro s _ it ⟨ds, hs, rfl⟩
    exact ⟨ds, by simpa using hs, by cases it <;> rfl⟩
  nextBurst := by
    rintro s _ ⟨ds, hs, rfl⟩
    exact ⟨ds, by simpa using hs, by rw [nextBurst_eq, nextBurst_eq]⟩
  raise := by rintro s _ code info ⟨ds, hs, rfl⟩; exact ⟨ds, hs, rfl⟩
  finish := by
    rintro s _ ⟨ds, hs, rfl⟩
    exact ⟨ds, by simpa using hs, by rw [finish_eq, finish_eq]⟩

/-- Settles O55: the run beside another controller differs from the first in the controller's registers alone. -/
theorem requestsReadNothingOfTheController : Obligations.RequestsReadNothingOfTheController := by
  intro r i s t c hd h
  obtain rfl : decodeRequest r = i := Except.ok.inj hd
  have hsame : SameButController s.ctl c s { s with ctl := c } := ⟨[], by simp, by simp⟩
  obtain ⟨_, ht, ds, hctl, rfl⟩ := (sameButController_lockstep s.ctl c).request hsame (request_meaning r) t h
  exact ⟨ds, hctl, ht⟩

end Sys2Proof.Machine
end

section
/-! PROOF. How the burst list of an accepted request runs on a bus that answers: to its end, to an error, to a write out of attempts,
or to a write that waits (spec 40 R107, R108; 60 R232, R234, R237, R238). -/
namespace Sys2Proof.Machine

/-! ### A pending write out of attempts -/

/-- A Timeout clears `synced`, and fails the initialization if the item is a step of INIT. -/
theorem onTimeout_of_mem_plan {c : Config} {l : Latches} {buf : List Byte} {it : Item} (h : it ∈ plan c l buf) (s : State) :
    it.onTimeout s = { s with synced := false, initState := if l.op = .init then .failed else s.initState } := by
  have hinit := initStep_mem_plan h
  cases it with
  | initStep bytes => rw [if_pos (hinit.mp ⟨bytes, rfl⟩)]; rfl
  | _ => rw [if_neg fun hop => by simpa using hinit.mpr hop]; rfl

/-- A write whose RETRY_LIMIT attempts are all Naks. -/
theorem transmit_timedOut {it : Item} {w : PendingWrite} {s : State} {m : Nat} {rest : List Attempt}
    (hlimit : s.cfg.retryLimit = some m) (hw : w.naks < m) (ha : s.answers = List.replicate (m - w.naks) .nak ++ rest) :
    transmit it w s = .raised .transportTimeout .none (it.onTimeout
      (record w.bytes m .timeout (.lost it.tag it.payload m) { s with tx := none, answers := rest })) := by
  have hend : attempts s.cfg.retryLimit w.naks s.answers = .timedOut m rest := by
    rw [hlimit, ha, attempts_replicate_nak_timedOut (by omega) (by omega)]
  simp only [transmit, hend]

/-- Settles O12: the pending write ends in its Timeout, and the step with it. -/
theorem boundedRetryTimesOut : Obligations.BoundedRetryTimesOut := by
  intro s k m w it rest hinv hinbox hseq htx hlimit ha hitem
  obtain ⟨_, w', -, htx', -, -, -, hnaks⟩ := hinv.pending_of_running hseq
  obtain rfl : w = w' := Option.some.inj (htx.symm.trans htx')
  have hlt : w.naks < m := hnaks m hlimit
  have hne : s.answers ≠ [] := by
    rw [ha]
    exact List.append_ne_nil_of_left_ne_nil (by simp; omega) _
  rw [step_of_running hinbox hseq hne, resume_of_pending hseq hitem htx, transmit_timedOut hlimit hlt ha, afterBurst,
    onTimeout_of_mem_plan (List.mem_of_getElem? hitem)]
  simp [raise, record, hinbox]

/-! ### A burst list whose writes are acknowledged -/

/-- The strict check and the size check let the item through. -/
def Item.Passes (c : Config) (it : Item) : Prop :=
  (∀ page column, it = .seek page column → strictRejects c page column = false) ∧ it.payload.length ≤ c.maxBurst

/-- The bursts of a list that leave DPF: an empty burst sends nothing. -/
def sentBursts : List Item → List Burst
  | [] => []
  | it :: items => if it.payload = [] then sentBursts items else (it.tag, it.payload) :: sentBursts items

/-- The cursor registers after the bursts of a list were acknowledged. -/
def ackAll (items : List Item) (s : State) : State := items.foldl (fun s it => it.onAck s) s

/-- `s` with the cursor registers of `t`. -/
def State.cursorOf (s t : State) : State := { s with curPage := t.curPage, curCol := t.curCol, synced := t.synced }

theorem ackAll_eq_of_cursor (items : List Item) {s t : State} (hcfg : t.cfg = s.cfg) (hpage : t.curPage = s.curPage)
    (hcol : t.curCol = s.curCol) (hsync : t.synced = s.synced) : ackAll items t = t.cursorOf (ackAll items s) := by
  induction items generalizing s t with
  | nil => simp only [ackAll, State.cursorOf, List.foldl_nil, ← hpage, ← hcol, ← hsync]
  | cons it items ih =>
    have hit := onAck_eq_of_cursor it hcfg hpage hcol hsync
    simp only [ackAll, List.foldl_cons] at ih ⊢
    rw [ih (s := it.onAck s) (by rw [onAck_cfg, onAck_cfg, hcfg]) (by rw [hit]) (by rw [hit]) (by rw [hit]), hit]
    rfl

theorem sent_nil (s : State) : s.sent [] [] s.answers = s := by
  simp [State.sent]

/-- `s` in front of burst `k`, with the cursor registers of `t`. -/
def State.inFrontOf (s : State) (k : Nat) (t : State) : State := { s.cursorOf t with seq := .running k }

/-- The state in front of the next burst once the item's write is acknowledged. -/
theorem nextBurst_acked {it : Item} {s : State} {k : Nat} (hseq : s.seq = .running k) (htx : s.tx = none) (n : Nat)
    (rest : List Attempt) :
    nextBurst (it.acked n rest s) = (s.sent [(it.tag, it.payload)] [n] rest).inFrontOf (k + 1) (it.onAck s) := by
  have hack := onAck_eq_of_cursor it (s := s) (t := record (encodeBurst s.cfg.policy it.tag it.payload) n .ack
    (.frame (encodeBurst s.cfg.policy it.tag it.payload)) { s with tx := none, answers := rest }) rfl rfl rfl rfl
  rw [nextBurst_eq, Item.acked_seq, hseq, Item.acked, hack]
  simp [record, State.sent, State.inFrontOf, State.cursorOf, ackedEntry, htx, Seq.next]

/-- A list whose items pass the checks and whose writes are acknowledged is behind DPF, its bursts sent, its cursor moved. -/
theorem runItems_append_acked {items : List Item} (more : List Item) {s : State} {k : Nat} {ns : List Nat} {rest : List Attempt}
    (hseq : s.seq = .running k) (htx : s.tx = none) (hpass : ∀ it ∈ items, it.Passes s.cfg)
    (hlen : ns.length = (sentBursts items).length) (hall : ∀ n ∈ ns, nakAllowed s.cfg.retryLimit n)
    (ha : s.answers = ackedAfter ns rest) :
    runItems (items ++ more) s =
      runItems more ((s.sent (sentBursts items) ns rest).inFrontOf (k + items.length) (ackAll items s)) := by
  induction items generalizing s k ns with
  | nil =>
    obtain rfl : ns = [] := List.length_eq_zero_iff.mp hlen
    obtain rfl : s.answers = rest := ha
    simp only [sentBursts, sent_nil, ackAll, List.foldl_nil, State.inFrontOf, State.cursorOf, List.length_nil, Nat.add_zero,
      ← hseq, List.nil_append]
  | cons it items ih =>
    obtain ⟨hit, hitems⟩ := List.forall_mem_cons.mp hpass
    have hack : ackAll (it :: items) s = ackAll items (it.onAck s) := rfl
    rw [List.cons_append, runItems_cons]
    by_cases hnil : it.payload = []
    · have hcursor := ackAll_eq_of_cursor items (nextBurst_cfg s) (nextBurst_curPage s) (nextBurst_curCol s) (nextBurst_synced s)
      have hsent : sentBursts (it :: items) = sentBursts items := if_pos hnil
      rw [hsent] at hlen ⊢
      rw [emptyBurstSendsNothing it s hnil, afterBurst, hack, onAck_of_payload_nil hnil,
        ih (nextBurst_seq hseq) ((nextBurst_tx s).trans htx) (by simpa using hitems) hlen (by simpa using hall)
          ((nextBurst_answers s).trans ha), hcursor, nextBurst_eq]
      simp [State.sent, State.inFrontOf, State.cursorOf, Nat.add_assoc, Nat.add_comm 1]
    · have hsent : sentBursts (it :: items) = (it.tag, it.payload) :: sentBursts items := if_neg hnil
      rw [hsent] at hlen ⊢
      obtain ⟨n, ns, rfl⟩ := List.exists_cons_of_length_pos (l := ns) (by simp [hlen])
      obtain ⟨hn, hns⟩ := List.forall_mem_cons.mp hall
      have hrest := ih (s := (s.sent [(it.tag, it.payload)] [n] (ackedAfter ns rest)).inFrontOf (k + 1) (it.onAck s)) rfl htx hitems
        (by simpa using hlen) hns rfl
      have hcursor := ackAll_eq_of_cursor items (s := it.onAck s)
        (t := (s.sent [(it.tag, it.payload)] [n] (ackedAfter ns rest)).inFrontOf (k + 1) (it.onAck s)) (onAck_cfg it s).symm rfl rfl rfl
      rw [startItem_acked hit.1 hit.2 hnil hn ha, afterBurst, nextBurst_acked hseq htx, hrest, hcursor, hack]
      simp [State.sent, State.inFrontOf, State.cursorOf, Nat.add_assoc, Nat.add_comm 1]

/-! ### The four ends of an accepted request -/

/-- `s` with the operands of a request latched and its buffer in place. -/
def State.latched (s : State) (l : Latches) (buf : List Byte) : State := { s with lat := l, callerBuf := buf }

theorem accept_of_idle {s : State} (hidle : s.seq = .idle) (load : Latches → Latches) (buf : List Byte) :
    accept load buf s =
      .next (runItems (plan s.cfg (load s.lat) buf) { s.latched (load s.lat) buf with seq := .running 0 }) :=
  if_pos hidle

/-- Accepting a request whose list begins with acknowledged items: they are behind DPF, and the rest of the list runs. -/
theorem accept_acked_then {load : Latches → Latches} {buf : List Byte} {s : State} {items more : List Item} {ns : List Nat}
    {rest : List Attempt} (hready : s.ready) (hplan : plan s.cfg (load s.lat) buf = items ++ more)
    (hpass : ∀ it ∈ items, it.Passes s.cfg) (hlen : ns.length = (sentBursts items).length)
    (hall : ∀ n ∈ ns, nakAllowed s.cfg.retryLimit n) (ha : s.answers = ackedAfter ns rest) :
    accept load buf s = .next (runItems more
      (((s.sent (sentBursts items) ns rest).latched (load s.lat) buf).inFrontOf items.length (ackAll items s))) := by
  have hcursor := ackAll_eq_of_cursor items (s := s) (t := { s.latched (load s.lat) buf with seq := .running 0 }) rfl rfl rfl rfl
  have hrun := runItems_append_acked more (s := { s.latched (load s.lat) buf with seq := .running 0 }) (k := 0) rfl hready.2 hpass
    hlen hall ha
  rw [accept_of_idle hready.1, hplan, hrun, hcursor, Nat.zero_add]
  rfl

/-- The whole list acknowledged: the operation ends with Ok. -/
theorem accept_acked {load : Latches → Latches} {buf : List Byte} {s : State} {ns : List Nat} {rest : List Attempt}
    (hready : s.ready) (hpass : ∀ it ∈ plan s.cfg (load s.lat) buf, it.Passes s.cfg)
    (hlen : ns.length = (sentBursts (plan s.cfg (load s.lat) buf)).length) (hall : ∀ n ∈ ns, nakAllowed s.cfg.retryLimit n)
    (ha : s.answers = ackedAfter ns rest) :
    accept load buf s = .next
      { ((s.sent (sentBursts (plan s.cfg (load s.lat) buf)) ns rest).latched (load s.lat) buf).cursorOf
          (ackAll (plan s.cfg (load s.lat) buf) s) with
        rsp := finishResponse (load s.lat),
        initState := if (load s.lat).op = .init then initStateAfterOk s.initState else s.initState } := by
  rw [accept_acked_then hready (List.append_nil _).symm hpass hlen hall ha, runItems, finish_eq]
  simp [State.inFrontOf, State.cursorOf, State.latched, State.sent, hready.1]

/-- An item behind acknowledged ones that a check stops, whatever the cursor: the operation ends there with its error. -/
theorem accept_stopped {load : Latches → Latches} {buf : List Byte} {s : State} {items more : List Item} {it : Item}
    {ns : List Nat} {rest : List Attempt} {code : Code} {info : Info} (hready : s.ready)
    (hplan : plan s.cfg (load s.lat) buf = items ++ it :: more)
    (hpass : ∀ it ∈ items, it.Passes s.cfg) (hlen : ns.length = (sentBursts items).length)
    (hall : ∀ n ∈ ns, nakAllowed s.cfg.retryLimit n) (ha : s.answers = ackedAfter ns rest)
    (hstop : ∀ t : State, t.cfg = s.cfg → startItem it t = .raised code info t) :
    accept load buf s = .next
      { ((s.sent (sentBursts items) ns rest).latched (load s.lat) buf).cursorOf (ackAll items s) with
        rsp := { code := code, info := info } } := by
  have hcfg : (((s.sent (sentBursts items) ns rest).latched (load s.lat) buf).inFrontOf items.length (ackAll items s)).cfg = s.cfg :=
    rfl
  rw [accept_acked_then hready hplan hpass hlen hall ha, runItems_cons, hstop _ hcfg, afterBurst]
  simp [raise, State.inFrontOf, State.cursorOf, State.latched, State.sent, hready.1]

/-- A write behind acknowledged ones that runs out of attempts: it is the last entry of the wire, and the operation ends. -/
theorem accept_lost {load : Latches → Latches} {buf : List Byte} {s : State} {items more : List Item} {it : Item}
    {ns : List Nat} {rest : List Attempt} {m : Nat} (hready : s.ready)
    (hplan : plan s.cfg (load s.lat) buf = items ++ it :: more)
    (hpass : ∀ it ∈ items, it.Passes s.cfg) (hlen : ns.length = (sentBursts items).length)
    (hlimit : s.cfg.retryLimit = some m) (hall : ∀ n ∈ ns, n < m) (hm : 1 ≤ m) (hit : it.Passes s.cfg) (hne : it.payload ≠ [])
    (ha : s.answers = ackedAfter ns (List.replicate m .nak ++ rest)) :
    accept load buf s = .next
      { (((s.sent (sentBursts items) ns []).lostBurst (it.tag, it.payload) m rest).latched (load s.lat) buf) with
        rsp := { code := .transportTimeout, info := .none },
        initState := if (load s.lat).op = .init then .failed else s.initState,
        curPage := (ackAll items s).curPage, curCol := (ackAll items s).curCol } := by
  have hmem : it ∈ plan s.cfg (load s.lat) buf := by simp [hplan]
  have hnaks : ∀ n ∈ ns, nakAllowed s.cfg.retryLimit n := fun n hn k hk => by
    obtain rfl : m = k := Option.some.inj (hlimit.symm.trans hk)
    exact hall n hn
  have hstart := (startItem_write (s := ((s.sent (sentBursts items) ns (List.replicate m .nak ++ rest)).latched (load s.lat)
    buf).inFrontOf items.length (ackAll items s)) hit.1 hit.2 hne).trans (transmit_timedOut hlimit hm rfl)
  rw [accept_acked_then hready hplan hpass hlen hnaks ha, runItems_cons, hstart, afterBurst, onTimeout_of_mem_plan hmem]
  simp [raise, record, State.lostBurst, State.inFrontOf, State.cursorOf, State.latched, State.sent, hready.1, hready.2]

/-- The first write waits for the environment: the operation stands at its first burst. -/
theorem accept_waiting {load : Latches → Latches} {buf : List Byte} {s : State} {more : List Item} {it : Item} {n : Nat}
    (hready : s.ready) (hplan : plan s.cfg (load s.lat) buf = it :: more) (hit : it.Passes s.cfg) (hne : it.payload ≠ [])
    (hn : nakAllowed s.cfg.retryLimit n) (ha : s.answers = List.replicate n .nak) :
    accept load buf s = .next
      { s.latched (load s.lat) buf with
        seq := .running 0, answers := [], tx := some { bytes := encodeBurst s.cfg.policy it.tag it.payload, naks := n } } := by
  have hwait : attempts s.cfg.retryLimit 0 s.answers = .waiting n := by
    rw [ha, attempts_replicate_nak (by rwa [Nat.zero_add]), Nat.zero_add]
  have hstart := startItem_write (s := { s.latched (load s.lat) buf with seq := .running 0 }) hit.1 hit.2 hne
  rw [accept_of_idle hready.1, hplan, runItems_cons, hstart]
  simp only [transmit, State.latched, hwait, afterBurst]

end Sys2Proof.Machine
end

section
/-! PROOF. The requests of one burst: FRAME.C, FRAME.D and SEEK (spec 40 R109, R110; 41 R120 to R125). -/
namespace Sys2Proof.Machine

/-! ### A burst list of one item -/

section
variable {load : Latches → Latches} {buf : List Byte} {s : State} {it : Item}

/-- A first item that a check stops: nothing is sent. -/
theorem accept_first_stopped {more : List Item} {code : Code} {info : Info} (hready : s.ready)
    (hplan : plan s.cfg (load s.lat) buf = it :: more)
    (hstop : ∀ t : State, t.cfg = s.cfg → startItem it t = .raised code info t) :
    accept load buf s = .next { s.latched (load s.lat) buf with rsp := { code := code, info := info } } := by
  rw [accept_stopped (items := []) (ns := []) (rest := s.answers) hready hplan (fun _ h => nomatch h) rfl (fun _ h => nomatch h) rfl
    hstop]
  simp only [sentBursts, sent_nil]
  rfl

theorem accept_first_tooLarge {more : List Item} (hready : s.ready) (hplan : plan s.cfg (load s.lat) buf = it :: more)
    (hstrict : ∀ page column, it = .seek page column → strictRejects s.cfg page column = false)
    (hbig : s.cfg.maxBurst < it.payload.length) :
    accept load buf s =
      .next { s.latched (load s.lat) buf with rsp := { code := .bufferTooLarge, info := .count it.payload.length } } :=
  accept_first_stopped hready hplan fun t ht => startItem_tooLarge (by rwa [ht]) (by rwa [ht])

theorem accept_single_acked {n : Nat} {rest : List Attempt} (hready : s.ready) (hplan : plan s.cfg (load s.lat) buf = [it])
    (hit : it.Passes s.cfg) (hne : it.payload ≠ []) (hn : nakAllowed s.cfg.retryLimit n) (ha : s.answers = ackedAfter [n] rest) :
    accept load buf s = .next
      { ((s.sent [(it.tag, it.payload)] [n] rest).latched (load s.lat) buf).cursorOf (it.onAck s) with
        rsp := finishResponse (load s.lat),
        initState := if (load s.lat).op = .init then initStateAfterOk s.initState else s.initState } := by
  have hsent : sentBursts [it] = [(it.tag, it.payload)] := if_neg hne
  rw [accept_acked hready (by rw [hplan]; exact List.forall_mem_singleton.mpr hit) (by rw [hplan, hsent]; rfl) (by simpa using hn) ha,
    hplan, hsent]
  rfl

theorem accept_single_lost {m : Nat} {rest : List Attempt} (hready : s.ready) (hplan : plan s.cfg (load s.lat) buf = [it])
    (hit : it.Passes s.cfg) (hne : it.payload ≠ []) (hm : 1 ≤ m) (hlimit : s.cfg.retryLimit = some m)
    (ha : s.answers = List.replicate m .nak ++ rest) :
    accept load buf s = .next
      { (s.lostBurst (it.tag, it.payload) m rest).latched (load s.lat) buf with
        rsp := { code := .transportTimeout, info := .none },
        initState := if (load s.lat).op = .init then .failed else s.initState } := by
  rw [accept_lost (items := []) (ns := []) hready hplan (fun _ h => nomatch h) rfl hlimit (fun _ h => nomatch h) hm hit hne ha]
  simp [sentBursts, State.sent, ackAll, State.latched, State.lostBurst]

end

/-! ### The requests and their burst lists -/

/-- The latches FRAME.C loads, with the buffer it is given. -/
def loadFrameC (buf : List Byte) (l : Latches) : Latches := { l with op := .frameC, tag := .command, bufLen := buf.length }

/-- The latches FRAME.D loads, with the buffer it is given. -/
def loadFrameD (buf : List Byte) (l : Latches) : Latches := { l with op := .frameD, tag := .data, bufLen := buf.length }

/-- The latches SEEK loads. -/
def loadSeek (page column : Byte) (l : Latches) : Latches := { l with op := .seek, page := page, column := column }

/-- The latches INIT loads. -/
def loadInit (l : Latches) : Latches := { l with op := .init }

/-- The latches CLEAR loads. -/
def loadClear (l : Latches) : Latches := { l with op := .clear }

/-- The latches WRITE loads, with the buffer it is given. -/
def loadWrite (buf : List Byte) (startPage pageSpan startColumn columnSpan : Byte) (l : Latches) : Latches :=
  { l with op := .write, startPage := startPage, pageSpan := pageSpan, startColumn := startColumn, columnSpan := columnSpan,
           bufLen := buf.length }

theorem exec_frameC (buf : List Byte) (s : State) : exec (.frameC buf) s = accept (loadFrameC buf) buf s := rfl

theorem exec_frameD (buf : List Byte) (s : State) : exec (.frameD buf) s = accept (loadFrameD buf) buf s := rfl

theorem exec_seek (page column : Byte) (s : State) :
    exec (.seek page column) s = accept (loadSeek page column) s.callerBuf s := rfl

theorem exec_init (s : State) : exec .init s = accept loadInit s.callerBuf s := rfl

theorem exec_clear (s : State) : exec .clear s = accept loadClear s.callerBuf s := rfl

theorem exec_write {buf : List Byte} {startPage pageSpan startColumn columnSpan : Byte}
    (hwf : (Instr.write buf startPage pageSpan startColumn columnSpan).wf = true) (s : State) :
    exec (.write buf startPage pageSpan startColumn columnSpan) s =
      accept (loadWrite buf startPage pageSpan startColumn columnSpan) buf s :=
  if_pos hwf

theorem plan_frameC (c : Config) (l : Latches) (buf : List Byte) : plan c (loadFrameC buf l) buf = [.raw .command buf] := by
  simp only [plan, loadFrameC, bufSlice_all]

theorem plan_frameD (c : Config) (l : Latches) (buf : List Byte) : plan c (loadFrameD buf l) buf = [.raw .data buf] := by
  simp only [plan, loadFrameD, bufSlice_all]

theorem plan_seek (c : Config) (l : Latches) (page column : Byte) (buf : List Byte) :
    plan c (loadSeek page column l) buf = [.seek page.toNat column.toNat] := rfl

theorem plan_init (c : Config) (l : Latches) (buf : List Byte) :
    plan c (loadInit l) buf = (initStream c).map Item.initStep := rfl

theorem plan_clear (c : Config) (l : Latches) (buf : List Byte) :
    plan c (loadClear l) buf = (List.range c.pageCount).flatMap (clearPage c) := rfl

theorem plan_write (c : Config) (l : Latches) (buf : List Byte) (startPage pageSpan startColumn columnSpan : Byte) :
    plan c (loadWrite buf startPage pageSpan startColumn columnSpan l) buf =
      (List.range' startPage.toNat pageSpan.toNat).flatMap (writePage buf startColumn columnSpan) := rfl

/-! ### FRAME.C and FRAME.D -/

theorem raw_passes {c : Config} {tag : Tag} {bytes : List Byte} (h : bytes.length ≤ c.maxBurst) : (Item.raw tag bytes).Passes c :=
  ⟨fun _ _ h => (by cases h), h⟩

theorem accept_raw_tooLarge {load : Latches → Latches} {buf bytes : List Byte} {s : State} {tag : Tag} (hready : s.ready)
    (hplan : plan s.cfg (load s.lat) buf = [.raw tag bytes]) (hbig : s.cfg.maxBurst < bytes.length) :
    accept load buf s =
      .next { s.latched (load s.lat) buf with rsp := { code := .bufferTooLarge, info := .count bytes.length } } :=
  accept_first_tooLarge (it := .raw tag bytes) hready hplan (fun _ _ h => (by cases h)) hbig

/-- An empty raw burst is a success that sends nothing. -/
theorem accept_raw_empty {load : Latches → Latches} {buf : List Byte} {s : State} {tag : Tag} (hready : s.ready)
    (hplan : plan s.cfg (load s.lat) buf = [.raw tag []]) :
    accept load buf s = .next
      { s.latched (load s.lat) buf with
        rsp := finishResponse (load s.lat),
        initState := if (load s.lat).op = .init then initStateAfterOk s.initState else s.initState } := by
  have hpass : ∀ it ∈ [Item.raw tag []], it.Passes s.cfg := List.forall_mem_singleton.mpr (raw_passes (Nat.zero_le _))
  have hack : ackAll [.raw tag []] s = s := onAck_of_payload_nil (it := .raw tag []) rfl s
  have hsent : sentBursts [.raw tag []] = [] := if_pos rfl
  rw [accept_acked (ns := []) (rest := s.answers) hready (hplan ▸ hpass) (by rw [hplan, hsent]; rfl) (fun _ h => nomatch h) rfl, hplan,
    hsent, hack, sent_nil]
  rfl

/-- Settles O16: the one burst of FRAME.C, too large, empty, acknowledged or out of attempts. -/
theorem frameCBehaviour : Obligations.FrameCBehaviour := by
  intro buf s hready l
  have hplan := plan_frameC s.cfg s.lat buf
  rw [exec_frameC]
  refine ⟨accept_raw_tooLarge hready hplan, fun hnil => ?_, fun hne hsize n rest hn ha => ?_, fun hne hsize n rest hn hlimit ha => ?_⟩
  · exact (accept_raw_empty hready (hplan.trans (by rw [hnil]))).trans rfl
  · have hpos : 1 ≤ buf.length := List.length_pos_iff.mpr hne
    have hack : (Item.raw .command buf).onAck s = { s with synced := false } := if_pos hpos
    rw [accept_single_acked hready hplan (raw_passes hsize) hne hn ha, hack]
    rfl
  · exact (accept_single_lost hready hplan (raw_passes hsize) hne hn hlimit ha).trans rfl

/-- Settles O17: the one burst of FRAME.D, too large, empty, acknowledged with its AdvanceCursor, or out of attempts. -/
theorem frameDBehaviour : Obligations.FrameDBehaviour := by
  intro buf s hready l
  have hplan := plan_frameD s.cfg s.lat buf
  rw [exec_frameD]
  refine ⟨accept_raw_tooLarge hready hplan, fun hnil => ?_, fun hne hsize n rest hn ha => ?_, fun hne hsize n rest hn hlimit ha => ?_⟩
  · exact (accept_raw_empty hready (hplan.trans (by rw [hnil]))).trans rfl
  · have hack : (Item.raw .data buf).onAck s = advanceCursor buf.length s := rfl
    rw [accept_single_acked hready hplan (raw_passes hsize) hne hn ha, hack,
      advanceCursor_eq (Nat.ne_of_gt (List.length_pos_iff.mpr hne))]
    rfl
  · exact (accept_single_lost hready hplan (raw_passes hsize) hne hn hlimit ha).trans rfl

/-! ### SEEK -/

/-- The bytes of a `Seek` with byte operands. -/
theorem seekBytes_eq (page column : Byte) :
    seekBytes page.toNat column.toNat = [0xB0#8 ||| (page &&& 0x07#8), column &&& 0x0F#8, 0x10#8 ||| (column >>> 4)] := by
  rw [seekBytes_toNat, ushiftRight_four_and, BitVec.zero_or]

/-- Masking to the width of the register is what `ofNat` does by itself. -/
theorem ofNat_and_mask (w n : Nat) : BitVec.ofNat w (n &&& (2 ^ w - 1)) = BitVec.ofNat w n := by
  apply BitVec.eq_of_toNat_eq
  simp [Nat.and_two_pow_sub_one_eq_mod]

/-- An acknowledged `Seek` on natural numbers: the cursor takes them modulo its widths. -/
theorem setCursor_eq (page column : Nat) (s : State) : setCursor page column s =
    { s with curPage := BitVec.ofNat 3 page, curCol := BitVec.ofNat 8 column,
             synced := decide (page % 8 < s.cfg.pageCount ∧ column % 256 < s.cfg.segCount) } := by
  have hpage : BitVec.ofNat 3 (page &&& 0x07) = BitVec.ofNat 3 page := ofNat_and_mask 3 page
  have hcol : BitVec.ofNat 8 (column &&& 0xFF) = BitVec.ofNat 8 column := ofNat_and_mask 8 column
  simp [setCursor, hpage, hcol, cursorInRange]

/-- An acknowledged `Seek` on byte operands. -/
theorem setCursor_toNat (page column : Byte) (s : State) : setCursor page.toNat column.toNat s =
    { s with curPage := page.setWidth 3, curCol := column,
             synced := decide (page.toNat % 8 < s.cfg.pageCount ∧ column.toNat < s.cfg.segCount) } := by
  rw [setCursor_eq, Nat.mod_eq_of_lt column.isLt, BitVec.ofNat_toNat, BitVec.ofNat_toNat, BitVec.setWidth_eq]

theorem strictRejects_iff (c : Config) (page column : Nat) :
    strictRejects c page column = true ↔ c.strict = true ∧ (c.pageCount ≤ page ∨ c.segCount ≤ column) := by
  simp [strictRejects]

theorem startItem_rejected {page column : Nat} {s : State} (h : strictRejects s.cfg page column = true) :
    startItem (.seek page column) s = .raised .addressOutOfRange (.address page column) s := by
  simp [startItem, h]

theorem seek_passes {c : Config} {page column : Nat} (hstrict : strictRejects c page column = false) (hsize : 3 ≤ c.maxBurst) :
    (Item.seek page column).Passes c :=
  ⟨fun _ _ h => by cases h; exact hstrict, hsize⟩

/-- A `Seek` that the strict check rejects, first in its list. -/
theorem accept_seek_rejected {load : Latches → Latches} {buf : List Byte} {s : State} {page column : Nat} {more : List Item}
    (hready : s.ready) (hplan : plan s.cfg (load s.lat) buf = .seek page column :: more)
    (hreject : strictRejects s.cfg page column = true) :
    accept load buf s = .next
      { s.latched (load s.lat) buf with rsp := { code := .addressOutOfRange, info := .address page column } } :=
  accept_first_stopped hready hplan fun t ht => startItem_rejected (by rwa [ht])

/-- A `Seek` that MAX_BURST does not hold, first in its list. -/
theorem accept_seek_tooLarge {load : Latches → Latches} {buf : List Byte} {s : State} {page column : Nat} {more : List Item}
    (hready : s.ready) (hplan : plan s.cfg (load s.lat) buf = .seek page column :: more)
    (hstrict : strictRejects s.cfg page column = false) (hbig : s.cfg.maxBurst < 3) :
    accept load buf s = .next { s.latched (load s.lat) buf with rsp := { code := .bufferTooLarge, info := .count 3 } } :=
  accept_first_tooLarge (it := .seek page column) hready hplan (fun _ _ h => by cases h; exact hstrict) hbig

/-- Settles O18: the one `Seek` of SEEK, rejected, too large, acknowledged or out of attempts. -/
theorem seekBehaviour : Obligations.SeekBehaviour := by
  intro page column s hready l bytes rejected
  have hplan := plan_seek s.cfg s.lat page column s.callerBuf
  have hbytes : seekBytes page.toNat column.toNat = bytes := seekBytes_eq page column
  have hpass (h : ¬ rejected) : strictRejects s.cfg page.toNat column.toNat = false :=
    Bool.eq_false_iff.mpr (mt (strictRejects_iff _ _ _).mp h)
  rw [exec_seek, ← hbytes]
  refine ⟨fun hrej => ?_, fun hrej hbig => ?_, fun hrej hsize n rest hn ha => ?_, fun hrej hsize n rest hn hlimit ha => ?_⟩
  · exact accept_seek_rejected hready hplan ((strictRejects_iff _ _ _).mpr hrej)
  · exact accept_seek_tooLarge hready hplan (hpass hrej) hbig
  · have hack : (Item.seek page.toNat column.toNat).onAck s = setCursor page.toNat column.toNat s := rfl
    rw [accept_single_acked hready hplan (seek_passes (hpass hrej) hsize) (List.cons_ne_nil _ _) hn ha, hack, setCursor_toNat]
    rfl
  · exact (accept_single_lost hready hplan (seek_passes (hpass hrej) hsize) (List.cons_ne_nil _ _) hn hlimit ha).trans rfl

end Sys2Proof.Machine
end

section
/-! PROOF. INIT (spec 42 R140 to R145), and the requests whose first write waits for the environment (spec 10 R32, 40 R108). -/
namespace Sys2Proof.Machine

/-! ### The steps of INIT as a burst list -/

theorem sentBursts_of_payload_ne_nil {items : List Item} (h : ∀ it ∈ items, it.payload ≠ []) :
    sentBursts items = items.map fun it => (it.tag, it.payload) := by
  induction items with
  | nil => rfl
  | cons it items ih =>
    obtain ⟨hit, hitems⟩ := List.forall_mem_cons.mp h
    rw [sentBursts, if_neg hit, ih hitems, List.map_cons]

theorem sentBursts_initSteps {stream : List (List Byte)} (h : ∀ bytes ∈ stream, bytes ≠ []) :
    sentBursts (stream.map Item.initStep) = stream.map fun bytes => (.command, bytes) := by
  rw [sentBursts_of_payload_ne_nil (List.forall_mem_map.mpr h), List.map_map]
  rfl

/-- A step of INIT moves no cursor register (spec 42 R146). -/
theorem ackAll_initSteps (stream : List (List Byte)) (s : State) : ackAll (stream.map Item.initStep) s = s := by
  induction stream with
  | nil => rfl
  | cons bytes stream ih => exact ih

theorem length_le_two_of_mem_initStream {c : Config} {bytes : List Byte} (h : bytes ∈ initStream c) : bytes.length ≤ 2 := by
  revert bytes
  simp [initStream]

theorem initStep_passes {c : Config} {bytes : List Byte} (h : bytes.length ≤ c.maxBurst) : (Item.initStep bytes).Passes c :=
  ⟨fun _ _ h => (by cases h), h⟩

theorem initSteps_pass {c : Config} (hsize : 2 ≤ c.maxBurst) {stream : List (List Byte)}
    (h : ∀ bytes ∈ stream, bytes ∈ initStream c) :
    ∀ it ∈ stream.map Item.initStep, it.Passes c :=
  List.forall_mem_map.mpr fun bytes hb => initStep_passes ((length_le_two_of_mem_initStream (h bytes hb)).trans hsize)

/-! ### INIT -/

/-- Settles O20: the first step is too large below two bytes; acknowledged, the twelve steps are sent and move no register. -/
theorem initBehaviour : Obligations.InitBehaviour := by
  intro s hready l
  have hplan := plan_init s.cfg s.lat s.callerBuf
  have hsent := sentBursts_initSteps (stream := initStream s.cfg) fun _ => ne_nil_of_mem_initStream
  rw [exec_init]
  refine ⟨fun hbig => ?_, fun hsize ns rest hlen hall ha => ?_⟩
  · exact accept_first_tooLarge (it := .initStep [0xA8#8, 0x3F#8]) hready hplan (fun _ _ h => (by cases h)) hbig
  · rw [accept_acked hready (hplan ▸ initSteps_pass hsize fun _ h => h) (by rw [hplan, hsent, hlen]; rfl) hall ha, hplan, hsent,
      ackAll_initSteps]
    rfl

/-- Settles O21: the steps in front of step `k` are acknowledged, and step `k` is the write out of attempts. -/
theorem initFailureIsFatal : Obligations.InitFailureIsFatal := by
  intro s k m bytes ns rest hready hsize hk hlen hall hm hlimit ha
  have hmem : bytes ∈ initStream s.cfg := List.mem_of_getElem? hk
  have hbefore : ∀ b ∈ (initStream s.cfg).take k, b ∈ initStream s.cfg := fun _ => List.mem_of_mem_take
  have hlt : k < (initStream s.cfg).length := (List.getElem?_eq_some_iff.mp hk).1
  have hplan : plan s.cfg (loadInit s.lat) s.callerBuf =
      ((initStream s.cfg).take k).map Item.initStep ++ .initStep bytes :: ((initStream s.cfg).drop (k + 1)).map Item.initStep := by
    rw [plan_init, ← List.map_cons, ← List.map_append, ← (List.getElem?_eq_some_iff.mp hk).2, List.getElem_cons_drop,
      List.take_append_drop]
  have hsent := sentBursts_initSteps (stream := (initStream s.cfg).take k) fun b hb => ne_nil_of_mem_initStream (hbefore b hb)
  rw [exec_init, accept_lost hready hplan (initSteps_pass hsize hbefore)
    (by rw [hsent, List.length_map, List.length_take, hlen]; omega) hlimit hall hm
    (initStep_passes ((length_le_two_of_mem_initStream hmem).trans hsize)) (ne_nil_of_mem_initStream hmem) ha, hsent, ackAll_initSteps]
  rfl

/-! ### A first write that waits -/

/-- The bytes of a `Seek` on a page number of any size: masked to its three bits. -/
theorem seekBytes_of_page (page : Nat) (column : Byte) :
    seekBytes page column.toNat = [0xB0#8 ||| BitVec.ofNat 8 (page % 8), column &&& 0x0F#8, 0x10#8 ||| (column >>> 4)] := by
  have hpage : page &&& 0x07 = page % 8 := Nat.and_two_pow_sub_one_eq_mod page 3
  have hcolumn := congrArg List.tail (seekBytes_eq 0#8 column)
  simpa [seekBytes, hpage] using hcolumn

theorem bufferCovers_of_length {buf : List Byte} {startPage pageSpan startColumn columnSpan : Byte}
    (h : (startPage.toNat + pageSpan.toNat) * columnSpan.toNat ≤ buf.length) :
    (Instr.write buf startPage pageSpan startColumn columnSpan).wf = true := by
  simp [Instr.wf, h]

/-- The burst list of CLEAR begins with the `Seek` of page 0. -/
theorem plan_clear_cons {c : Config} (h : 1 ≤ c.pageCount) (l : Latches) (buf : List Byte) :
    ∃ more, plan c (loadClear l) buf = .seek 0 0 :: .raw .data (List.replicate c.segCount 0#8) :: more := by
  obtain ⟨n, hn⟩ := Nat.exists_eq_add_of_le' h
  exact ⟨_, by rw [plan_clear, hn, List.range_succ_eq_map, List.flatMap_cons]; rfl⟩

/-- The burst list of WRITE begins with the `Seek` of its start page. -/
theorem plan_write_cons {pageSpan : Byte} (h : 1 ≤ pageSpan.toNat) (c : Config) (l : Latches) (buf : List Byte)
    (startPage startColumn columnSpan : Byte) :
    ∃ more, plan c (loadWrite buf startPage pageSpan startColumn columnSpan l) buf =
      .seek startPage.toNat startColumn.toNat ::
        .raw .data (bufSlice buf (startPage.toNat * columnSpan.toNat) columnSpan.toNat) :: more := by
  obtain ⟨n, hn⟩ := Nat.exists_eq_add_of_le' h
  exact ⟨_, by rw [plan_write, hn, List.range'_succ, List.flatMap_cons]; rfl⟩

/-- Settles O13: the first burst of each of the six requests passes the checks and has a payload, so its write waits. -/
theorem requestWaitsForItsFirstWrite : Obligations.RequestWaitsForItsFirstWrite := by
  intro s n hready hwf hn ha waits
  refine ⟨fun buf hne hsize => ?_, fun buf hne hsize => ?_, fun page column hsize hstrict => ?_, fun hsize => ?_, fun hsize => ?_,
    fun buf startPage pageSpan startColumn columnSpan hsize hpages hlen hstrict => ?_⟩
  · exact accept_waiting hready (plan_frameC s.cfg s.lat buf) (raw_passes hsize) hne hn ha
  · exact accept_waiting hready (plan_frameD s.cfg s.lat buf) (raw_passes hsize) hne hn ha
  · rw [← seekBytes_eq]
    exact accept_waiting hready (plan_seek s.cfg s.lat page column s.callerBuf) (seek_passes (strictRejects_eq_false hstrict) hsize)
      (List.cons_ne_nil _ _) hn ha
  · exact accept_waiting hready (plan_init s.cfg s.lat s.callerBuf) (initStep_passes hsize) (List.cons_ne_nil _ _) hn ha
  · obtain ⟨hpages, -, hcolumns, -⟩ := (Config.wf_iff s.cfg).mp hwf
    obtain ⟨more, hplan⟩ := plan_clear_cons hpages s.lat s.callerBuf
    exact accept_waiting hready hplan (seek_passes (strictRejects_eq_false fun _ => ⟨hpages, hcolumns⟩) hsize)
      (List.cons_ne_nil _ _) hn ha
  · obtain ⟨more, hplan⟩ := plan_write_cons hpages s.cfg s.lat buf startPage startColumn columnSpan
    rw [exec_write (bufferCovers_of_length hlen), ← seekBytes_eq]
    exact accept_waiting hready hplan (seek_passes (strictRejects_eq_false hstrict) hsize) (List.cons_ne_nil _ _) hn ha

end Sys2Proof.Machine
end

section
/-! PROOF. CLEAR and WRITE: a burst list of pages, each a `Seek` and a Data burst (spec 43 R160 to R168). -/
namespace Sys2Proof.Machine

/-! ### A burst list of pages -/

theorem sentBursts_append (items more : List Item) : sentBursts (items ++ more) = sentBursts items ++ sentBursts more := by
  induction items with
  | nil => rfl
  | cons it items ih =>
    by_cases hnil : it.payload = [] <;> simp [sentBursts, hnil, ih]

theorem sentBursts_flatMap (ps : List Nat) (f : Nat → List Item) :
    sentBursts (ps.flatMap f) = ps.flatMap fun p => sentBursts (f p) := by
  induction ps with
  | nil => rfl
  | cons p ps ih => rw [List.flatMap_cons, sentBursts_append, ih, List.flatMap_cons]

theorem ackAll_append (items more : List Item) (s : State) : ackAll (items ++ more) s = ackAll more (ackAll items s) :=
  List.foldl_append

/-- A page of CLEAR or of WRITE: a `Seek` and the Data burst of the page. -/
def pageItems (data : Nat → List Byte) (column p : Nat) : List Item := [.seek p column, .raw .data (data p)]

/-- The pages from `start` on, `len` of them. -/
def pageList (data : Nat → List Byte) (column start len : Nat) : List Item :=
  (List.range' start len).flatMap (pageItems data column)

/-- The bursts of a page that leave DPF: the Data burst only if the page has columns. -/
def burstsPerPage (n : Nat) : Nat := if n = 0 then 1 else 2

theorem sentBursts_pageItems (data : Nat → List Byte) (column p : Nat) :
    sentBursts (pageItems data column p) =
      (.command, seekBytes p column) :: if data p = [] then [] else [(.data, data p)] := rfl

theorem length_sentBursts_pageItems {data : Nat → List Byte} {p n : Nat} (h : (data p).length = n) (column : Nat) :
    (sentBursts (pageItems data column p)).length = burstsPerPage n := by
  have hiff : data p = [] ↔ n = 0 := by rw [← h, List.length_eq_zero_iff]
  rw [sentBursts_pageItems]
  by_cases hn : n = 0 <;> simp [burstsPerPage, hiff, hn]

section
variable {data : Nat → List Byte} {column start len n : Nat}

theorem pageList_concat (data : Nat → List Byte) (column start len : Nat) :
    pageList data column start (len + 1) = pageList data column start len ++ pageItems data column (start + len) := by
  simp [pageList, List.range'_1_concat]

theorem pageList_split {i : Nat} (hi : i < len) : pageList data column start len =
    pageList data column start i ++ .seek (start + i) column :: .raw .data (data (start + i)) ::
      pageList data column (start + i + 1) (len - i - 1) := by
  have hrange : List.range' start len = List.range' start i ++ List.range' (start + i) (len - i - 1 + 1) := by
    rw [List.range'_append_1]
    congr 1
    omega
  rw [pageList, hrange, List.flatMap_append, List.range'_succ, List.flatMap_cons]
  rfl

theorem length_sentBursts_pageList (h : ∀ p ∈ List.range' start len, (data p).length = n) :
    (sentBursts (pageList data column start len)).length = burstsPerPage n * len := by
  induction len with
  | zero => rfl
  | succ len ih =>
    rw [List.range'_1_concat] at h
    have hlast := length_sentBursts_pageItems (h (start + len) (by simp)) column
    rw [pageList_concat, sentBursts_append, List.length_append, ih fun p hp => h p (List.mem_append_left _ hp), hlast, Nat.mul_succ]

theorem pageList_passes {c : Config} (hseek : 3 ≤ c.maxBurst) (hn : n ≤ c.maxBurst)
    (hdata : ∀ p ∈ List.range' start len, (data p).length = n)
    (hstrict : ∀ p ∈ List.range' start len, strictRejects c p column = false) :
    ∀ it ∈ pageList data column start len, it.Passes c := by
  intro it hit
  obtain ⟨p, hp, hit⟩ := List.mem_flatMap.mp hit
  obtain rfl | rfl : it = .seek p column ∨ it = .raw .data (data p) := by simpa [pageItems] using hit
  · exact seek_passes (hstrict p hp) hseek
  · exact raw_passes ((hdata p hp).trans_le hn)

@[simp] theorem setCursor_curPage (page column : Nat) (s : State) : (setCursor page column s).curPage = BitVec.ofNat 3 page := by
  rw [setCursor_eq]

@[simp] theorem setCursor_curCol (column page : Nat) (s : State) : (setCursor page column s).curCol = BitVec.ofNat 8 column := by
  rw [setCursor_eq]

/-- A `Seek` moves the cursor to the same place from wherever it was. -/
theorem setCursor_of_cursor {s t : State} (h : t = s.cursorOf t) (page column : Nat) :
    setCursor page column t = setCursor page column s := by
  rw [h]
  rfl

/-- The cursor after acknowledged pages is the last page's: its `Seek`, then its Data burst. -/
theorem ackAll_pageList (hdata : ∀ p ∈ List.range' start len, (data p).length = n) (s : State) :
    ackAll (pageList data column start len) s =
      if len = 0 then s else advanceCursor n (setCursor (start + len - 1) column s) := by
  cases len with
  | zero => rfl
  | succ len =>
    have hcursor : ackAll (pageList data column start len) s = s.cursorOf (ackAll (pageList data column start len) s) :=
      ackAll_eq_of_cursor _ rfl rfl rfl rfl
    have hlast := hdata (start + len) (by simp)
    rw [pageList_concat, ackAll_append, if_neg (Nat.succ_ne_zero len), ← hlast, ← setCursor_of_cursor hcursor]
    rfl

/-! ### Requests whose burst list is a list of pages -/

variable {load : Latches → Latches} {buf : List Byte} {s : State} {k m : Nat} {b : Burst} {ns : List Nat} {rest : List Attempt}

/-- Burst `k` of an accepted request runs out of attempts, those in front of it acknowledged. -/
theorem accept_lost_at {items more : List Item} {it : Item} (hready : s.ready)
    (hplan : plan s.cfg (load s.lat) buf = items ++ it :: more) (hpass : ∀ it ∈ items, it.Passes s.cfg)
    (hk : (sentBursts items).length = k) (hb : (sentBursts (plan s.cfg (load s.lat) buf))[k]? = some b)
    (hlen : ns.length = k) (hlimit : s.cfg.retryLimit = some m) (hall : ∀ n ∈ ns, n < m) (hm : 1 ≤ m) (hit : it.Passes s.cfg)
    (hne : it.payload ≠ []) (ha : s.answers = ackedAfter ns (List.replicate m .nak ++ rest)) :
    accept load buf s = .next
      { (((s.sent ((sentBursts (plan s.cfg (load s.lat) buf)).take k) ns []).lostBurst b m rest).latched (load s.lat) buf) with
        rsp := { code := .transportTimeout, info := .none },
        initState := if (load s.lat).op = .init then .failed else s.initState,
        curPage := (ackAll items s).curPage, curCol := (ackAll items s).curCol } := by
  have hsent : sentBursts (plan s.cfg (load s.lat) buf) = sentBursts items ++ (it.tag, it.payload) :: sentBursts more := by
    rw [hplan, sentBursts_append, sentBursts, if_neg hne]
  obtain rfl : (it.tag, it.payload) = b := by simpa [hsent, ← hk] using hb
  rw [accept_lost hready hplan hpass (hlen.trans hk.symm) hlimit hall hm hit hne ha, hsent, List.take_left' hk]

section
variable (hready : s.ready) (hplan : plan s.cfg (load s.lat) buf = pageList data column start len)
  (hdata : ∀ p ∈ List.range' start len, (data p).length = n) (hseek : 3 ≤ s.cfg.maxBurst) (hn : n ≤ s.cfg.maxBurst)
  (hb : (sentBursts (plan s.cfg (load s.lat) buf))[k]? = some b) (hlen : ns.length = k) (hlimit : s.cfg.retryLimit = some m)
  (hall : ∀ n ∈ ns, n < m) (hm : 1 ≤ m) (ha : s.answers = ackedAfter ns (List.replicate m .nak ++ rest))
include hready hplan hdata hseek hn hb hlen hlimit hall hm ha

/-- The `Seek` of page `i` of the list runs out of attempts: the cursor is where page `i - 1` left it. -/
theorem accept_pages_lost_seek {i : Nat} (hi : i < len) (hk : k = burstsPerPage n * i)
    (hstrict : ∀ p ∈ List.range' start (i + 1), strictRejects s.cfg p column = false) :
    let t := if i = 0 then s else advanceCursor n (setCursor (start + i - 1) column s)
    accept load buf s = .next
      { (((s.sent ((sentBursts (plan s.cfg (load s.lat) buf)).take k) ns []).lostBurst b m rest).latched (load s.lat) buf) with
        rsp := { code := .transportTimeout, info := .none },
        initState := if (load s.lat).op = .init then .failed else s.initState, curPage := t.curPage, curCol := t.curCol } := by
  rw [List.range'_1_concat] at hstrict
  have hbefore : ∀ p ∈ List.range' start i, (data p).length = n := fun p hp =>
    hdata p (List.mem_range'_1.mpr (by have := List.mem_range'_1.mp hp; omega))
  have hpass := pageList_passes hseek hn hbefore fun p hp => hstrict p (List.mem_append_left _ hp)
  have hthis := seek_passes (hstrict (start + i) (by simp)) hseek
  rw [accept_lost_at hready (hplan.trans (pageList_split hi)) hpass ((length_sentBursts_pageList hbefore).trans hk.symm) hb hlen
    hlimit hall hm hthis (List.cons_ne_nil _ _) ha, ackAll_pageList hbefore]

/-- The Data burst of page `i` of the list runs out of attempts: the cursor is where the page's `Seek` put it. -/
theorem accept_pages_lost_data {i : Nat} (hi : i < len) (hcolumns : n ≠ 0) (hk : k = 2 * i + 1)
    (hstrict : ∀ p ∈ List.range' start (i + 1), strictRejects s.cfg p column = false) :
    accept load buf s = .next
      { (((s.sent ((sentBursts (plan s.cfg (load s.lat) buf)).take k) ns []).lostBurst b m rest).latched (load s.lat) buf) with
        rsp := { code := .transportTimeout, info := .none },
        initState := if (load s.lat).op = .init then .failed else s.initState,
        curPage := (setCursor (start + i) column s).curPage, curCol := (setCursor (start + i) column s).curCol } := by
  rw [List.range'_1_concat] at hstrict
  have hbefore : ∀ p ∈ List.range' start i, (data p).length = n := fun p hp =>
    hdata p (List.mem_range'_1.mpr (by have := List.mem_range'_1.mp hp; omega))
  have hthis : (data (start + i)).length = n := hdata _ (List.mem_range'_1.mpr (by omega))
  have hpass : ∀ it ∈ pageList data column start i ++ [.seek (start + i) column], it.Passes s.cfg :=
    List.forall_mem_append.mpr ⟨pageList_passes hseek hn hbefore fun p hp => hstrict p (List.mem_append_left _ hp),
      List.forall_mem_singleton.mpr (seek_passes (hstrict (start + i) (by simp)) hseek)⟩
  have hsplit := hplan.trans ((pageList_split hi).trans (List.append_cons _ _ _))
  have hsent : (sentBursts (pageList data column start i ++ [.seek (start + i) column])).length = k := by
    rw [sentBursts_append, List.length_append, length_sentBursts_pageList hbefore, burstsPerPage, if_neg hcolumns, hk]
    rfl
  have hcursor : ackAll (pageList data column start i) s = s.cursorOf (ackAll (pageList data column start i) s) :=
    ackAll_eq_of_cursor _ rfl rfl rfl rfl
  have hack : ackAll (pageList data column start i ++ [.seek (start + i) column]) s = setCursor (start + i) column s :=
    (ackAll_append _ _ s).trans (setCursor_of_cursor hcursor _ _)
  rw [accept_lost_at hready hsplit hpass hsent hb hlen hlimit hall hm (raw_passes (hthis.trans_le hn))
    (fun h => hcolumns (by rw [← hthis]; exact congrArg List.length h)) ha, hack]

/-- The cursor by the index of the burst: behind `k` acknowledged bursts DPF is at a page's `Seek` or at its end. -/
theorem accept_pages_lost (hstrict : ∀ p ∈ List.range' start (k / burstsPerPage n + 1), strictRejects s.cfg p column = false) :
    let last := start + (k - 1) / burstsPerPage n
    accept load buf s = .next
      { (((s.sent ((sentBursts (plan s.cfg (load s.lat) buf)).take k) ns []).lostBurst b m rest).latched (load s.lat) buf) with
        rsp := { code := .transportTimeout, info := .none },
        initState := if (load s.lat).op = .init then .failed else s.initState,
        curPage := if k = 0 then s.curPage else BitVec.ofNat 3 last,
        curCol := if k = 0 then s.curCol else if k % 2 = 1 then BitVec.ofNat 8 column
          else (advanceCursor n (setCursor last column s)).curCol } := by
  intro last
  have hi : k / burstsPerPage n < len := by
    refine Nat.div_lt_of_lt_mul ?_
    rw [← length_sentBursts_pageList hdata (column := column), ← hplan]
    exact (List.getElem?_eq_some_iff.mp hb).1
  have hcolumns : burstsPerPage n = 1 ∧ n = 0 ∨ burstsPerPage n = 2 ∧ n ≠ 0 := by
    by_cases h : n = 0 <;> simp [burstsPerPage, h]
  have hsplit := (Nat.div_add_mod k (burstsPerPage n)).symm
  generalize hdef : k / burstsPerPage n = i at hsplit hi hstrict
  by_cases hr : k % burstsPerPage n = 0
  · rw [hr, Nat.add_zero] at hsplit
    rw [accept_pages_lost_seek hready hplan hdata hseek hn hb hlen hlimit hall hm ha hi hsplit hstrict]
    obtain rfl | ⟨j, rfl⟩ : i = 0 ∨ ∃ j, i = j + 1 := by cases i <;> simp
    · simp [hsplit]
    · have hlast : last = start + (j + 1) - 1 := by
        have hj : (k - 1) / burstsPerPage n = j := by
          rcases hcolumns with ⟨hper, -⟩ | ⟨hper, -⟩ <;> rw [hper] at hsplit ⊢ <;> omega
        rw [Nat.add_succ_sub_one, ← hj]
      have hk0 : k ≠ 0 := by rcases hcolumns with ⟨hper, -⟩ | ⟨hper, -⟩ <;> rw [hper] at hsplit <;> omega
      have hcol : (if k % 2 = 1 then BitVec.ofNat 8 column else (advanceCursor n (setCursor last column s)).curCol) =
          (advanceCursor n (setCursor last column s)).curCol :=
        ite_eq_right_iff.mpr fun hodd => by
          obtain ⟨-, hn0⟩ := hcolumns.resolve_right fun ⟨hper, _⟩ => by rw [hper] at hsplit; omega
          rw [hn0, ← setCursor_curCol column last s]
          rfl
      simp [← hlast, hk0, hcol]
  · obtain ⟨hper, hn0⟩ : burstsPerPage n = 2 ∧ n ≠ 0 := hcolumns.resolve_left fun h => hr (by rw [h.1, Nat.mod_one])
    rw [hper] at hsplit hr
    have hodd : k = 2 * i + 1 := by omega
    rw [accept_pages_lost_data hready hplan hdata hseek hn hb hlen hlimit hall hm ha hi hn0 hodd hstrict]
    have hlast : last = start + i := congrArg (start + ·) (by rw [hper]; omega)
    simp [hlast, hodd]
end

end

end Sys2Proof.Machine
end

section
/-! PROOF. CLEAR and WRITE, acknowledged, stopped by a check, or out of attempts (spec 43 R160 to R168, 60 R232, R234, R238). -/
namespace Sys2Proof.Machine

/-! ### CLEAR as a list of pages -/

/-- The Data burst of a page of CLEAR. -/
def clearData (c : Config) (_ : Nat) : List Byte := List.replicate c.segCount 0x00#8

theorem plan_clear_pages (c : Config) (l : Latches) (buf : List Byte) :
    plan c (loadClear l) buf = pageList (clearData c) 0 0 c.pageCount := by
  rw [plan_clear, List.range_eq_range']
  rfl

theorem clearData_length {c : Config} {ps : List Nat} : ∀ p ∈ ps, (clearData c p).length = c.segCount := by
  simp [clearData]

theorem sentBursts_clear {c : Config} (hwf : c.wf = true) : sentBursts (pageList (clearData c) 0 0 c.pageCount) = clearBursts c := by
  obtain ⟨-, hpages, hcolumns, -⟩ := (Config.wf_iff c).mp hwf
  rw [pageList, sentBursts_flatMap, ← List.range_eq_range', clearBursts]
  refine List.flatMap_congr fun p hp => ?_
  have hbytes : seekBytes p 0 = [0xB0#8 ||| BitVec.ofNat 8 p, 0x00#8, 0x10#8] := by
    rw [List.mem_range] at hp
    simpa [Nat.mod_eq_of_lt (hp.trans_le hpages)] using seekBytes_of_page p 0#8
  have hne : clearData c p ≠ [] := by simp [clearData]; omega
  rw [sentBursts_pageItems, if_neg hne, hbytes]
  rfl

theorem length_clearBursts (c : Config) : (clearBursts c).length = 2 * c.pageCount := by
  simp [clearBursts, List.length_flatMap, Nat.mul_comm]

/-- An acknowledged page of CLEAR fills the page, so the cursor is lost at its last column (spec 41 R127). -/
theorem clearPage_cursor {s : State} (hwf : s.cfg.wf = true) {p : Nat} (hp : p < s.cfg.pageCount) :
    advanceCursor s.cfg.segCount (setCursor p 0 s) =
      { s with curPage := BitVec.ofNat 3 p, curCol := BitVec.ofNat 8 (s.cfg.segCount - 1), synced := false } := by
  obtain ⟨-, hpages, hcolumns, -⟩ := (Config.wf_iff s.cfg).mp hwf
  have hin : p % 8 < s.cfg.pageCount ∧ 0 % 256 < s.cfg.segCount := ⟨(Nat.mod_le _ _).trans_lt hp, hcolumns⟩
  have hfull : ¬ s.cfg.segCount ≤ s.cfg.segCount - 1 := by omega
  simp [setCursor_eq, advanceCursor, hin, hfull, Nat.ne_of_gt hcolumns]

/-! ### WRITE as a list of pages -/

theorem byte_eq_zero_iff (b : Byte) : b = 0#8 ↔ b.toNat = 0 := by
  rw [BitVec.toNat_eq]
  rfl

/-- The Data burst of a page of WRITE. -/
def writeData (buf : List Byte) (columnSpan : Byte) (p : Nat) : List Byte :=
  bufSlice buf (p * columnSpan.toNat) columnSpan.toNat

theorem plan_write_pages (c : Config) (l : Latches) (buf : List Byte) (startPage pageSpan startColumn columnSpan : Byte) :
    plan c (loadWrite buf startPage pageSpan startColumn columnSpan l) buf =
      pageList (writeData buf columnSpan) startColumn.toNat startPage.toNat pageSpan.toNat := rfl

theorem writeData_length {buf : List Byte} {startPage pageSpan startColumn columnSpan : Byte}
    (hwf : (Instr.write buf startPage pageSpan startColumn columnSpan).wf = true) :
    ∀ p ∈ List.range' startPage.toNat pageSpan.toNat, (writeData buf columnSpan p).length = columnSpan.toNat := by
  intro p hp
  obtain ⟨hfrom, hp⟩ := List.mem_range'_1.mp hp
  have hcover : pageSpan = 0#8 ∨ columnSpan = 0#8 ∨ (startPage.toNat + pageSpan.toNat) * columnSpan.toNat ≤ buf.length := by
    simpa [Instr.wf, or_assoc] using hwf
  rcases hcover with rfl | rfl | hlen
  · exact absurd hp (Nat.not_lt_of_le hfrom)
  · simp [writeData, bufSlice]
  · refine bufSlice_length (le_trans ?_ hlen)
    rw [← Nat.succ_mul]
    exact Nat.mul_le_mul_right _ hp

theorem writeData_eq_map {buf : List Byte} {columnSpan : Byte} {p : Nat} (h : (writeData buf columnSpan p).length = columnSpan.toNat) :
    writeData buf columnSpan p = (List.range columnSpan.toNat).map fun j => buf.getD (p * columnSpan.toNat + j) 0#8 := by
  refine List.ext_getElem (by simp [h]) fun j hj _ => ?_
  simp only [writeData, bufSlice, List.length_take, List.length_drop] at hj
  have hget : buf[p * columnSpan.toNat + j]? = some buf[p * columnSpan.toNat + j] := List.getElem?_eq_getElem (by omega)
  simp [writeData, bufSlice, List.getD_eq_getElem?_getD, hget]

theorem sentBursts_write {buf : List Byte} {columnSpan : Byte} {start len : Nat}
    (hdata : ∀ p ∈ List.range' start len, (writeData buf columnSpan p).length = columnSpan.toNat) (startColumn : Byte) :
    sentBursts (pageList (writeData buf columnSpan) startColumn.toNat start len) =
      writeBursts buf (List.range' start len) startColumn columnSpan := by
  rw [pageList, sentBursts_flatMap, writeBursts]
  refine List.flatMap_congr fun p hp => ?_
  have hnil : writeData buf columnSpan p = [] ↔ columnSpan = 0#8 := by
    rw [← List.length_eq_zero_iff, hdata p hp, byte_eq_zero_iff]
  rw [sentBursts_pageItems, seekBytes_of_page, ← writeData_eq_map (hdata p hp)]
  simp only [hnil]

/-- An acknowledged page of WRITE leaves the cursor where `writeCursor` says (spec 41 R125, R127). -/
theorem writePage_cursor (p : Nat) (startColumn columnSpan : Byte) (s : State) :
    advanceCursor columnSpan.toNat (setCursor p startColumn.toNat s) =
      { s with curPage := BitVec.ofNat 3 p, curCol := (writeCursor s.cfg p startColumn columnSpan).1,
               synced := (writeCursor s.cfg p startColumn columnSpan).2 } := by
  have hzero := byte_eq_zero_iff columnSpan
  rw [setCursor_eq, Nat.mod_eq_of_lt startColumn.isLt]
  by_cases hin : p % 8 < s.cfg.pageCount ∧ startColumn.toNat < s.cfg.segCount
  · by_cases hspan : columnSpan.toNat = 0
    · simp [advanceCursor, writeCursor, hin, hzero, hspan]
    · by_cases hfits : startColumn.toNat + columnSpan.toNat ≤ s.cfg.segCount - 1 <;>
        simp [advanceCursor, writeCursor, hin, hzero, hspan, hfits]
  · simp [advanceCursor, writeCursor, hin]

/-! ### CLEAR -/

/-- Settles O23: CLEAR is the list of the pages from 0 on, each `Seek` accepted, each page left at its last column. -/
theorem clearBehaviour : Obligations.ClearBehaviour := by
  intro s hready hwf l
  obtain ⟨hpages, -, hcolumns, -⟩ := (Config.wf_iff s.cfg).mp hwf
  have hplan := plan_clear_pages s.cfg s.lat s.callerBuf
  have hsent : sentBursts (plan s.cfg (loadClear s.lat) s.callerBuf) = clearBursts s.cfg := by rw [hplan, sentBursts_clear hwf]
  have hstrict {p : Nat} (hp : p < s.cfg.pageCount) : strictRejects s.cfg p 0 = false := strictRejects_eq_false fun _ => ⟨hp, hcolumns⟩
  rw [exec_clear]
  refine ⟨fun hbig => ?_, fun hseek hdata ns rest hlen hall ha => ?_, fun hseek hdata k m b ns rest hb hlen hall hm hlimit ha => ?_⟩
  · obtain ⟨more, hfirst⟩ := plan_clear_cons hpages s.lat s.callerBuf
    exact accept_seek_tooLarge hready hfirst (hstrict hpages) hbig
  · have hpass := pageList_passes hseek hdata (clearData_length (c := s.cfg))
      fun p (hp : p ∈ List.range' 0 s.cfg.pageCount) => hstrict (by simpa using (List.mem_range'_1.mp hp).2)
    have hack := ackAll_pageList (column := 0) (clearData_length (c := s.cfg) (ps := List.range' 0 s.cfg.pageCount)) s
    rw [if_neg (Nat.ne_of_gt hpages), Nat.zero_add, clearPage_cursor hwf (by omega)] at hack
    rw [accept_acked hready (hplan ▸ hpass) (by rw [hsent, hlen, length_clearBursts]) hall ha, hsent, hplan, hack]
    rfl
  · have hlt : k < 2 * s.cfg.pageCount := length_clearBursts s.cfg ▸ (List.getElem?_eq_some_iff.mp hb).1
    have hper : burstsPerPage s.cfg.segCount = 2 := if_neg (Nat.ne_of_gt hcolumns)
    rw [accept_pages_lost hready hplan clearData_length hseek hdata (hsent ▸ hb) hlen hlimit hall hm ha
      fun p hp => hstrict (by rw [hper] at hp; have := List.mem_range'_1.mp hp; omega), hsent, hper, Nat.zero_add,
      clearPage_cursor hwf (by omega)]
    rfl

/-! ### WRITE -/

theorem burstsPerPage_toNat (columnSpan : Byte) : burstsPerPage columnSpan.toNat = if columnSpan = 0#8 then 1 else 2 := by
  simp only [burstsPerPage, byte_eq_zero_iff]

/-- Settles O25: WRITE is the list of the pages of its span, each page left where `writeCursor` says. -/
theorem writeBehaviour : Obligations.WriteBehaviour := by
  intro buf startPage pageSpan startColumn columnSpan s hready hwf l bursts accepted
  have hdata := writeData_length hwf
  have hplan := plan_write_pages s.cfg s.lat buf startPage pageSpan startColumn columnSpan
  have hsent : sentBursts (plan s.cfg (loadWrite buf startPage pageSpan startColumn columnSpan s.lat) buf) = bursts := by
    rw [hplan, sentBursts_write hdata]
  have hstrict {pages : Nat} (h : accepted pages) :
      ∀ p ∈ List.range' startPage.toNat pages, strictRejects s.cfg p startColumn.toNat = false := fun p hp =>
    strictRejects_eq_false fun hs => by
      obtain ⟨hfrom, hto⟩ := List.mem_range'_1.mp hp
      obtain ⟨hpages, hcolumn⟩ := (h hs).resolve_left (by omega)
      exact ⟨by omega, hcolumn⟩
  rw [exec_write hwf]
  refine ⟨fun hbig hpages hacc => ?_, fun hseek hsize hacc ns rest hlen hall ha => ?_,
    fun hseek hsize k m b ns rest hb hacc hlen hall hm hlimit ha => ?_⟩
  · obtain ⟨more, hfirst⟩ := plan_write_cons hpages s.cfg s.lat buf startPage startColumn columnSpan
    exact accept_seek_tooLarge hready hfirst (hstrict hacc _ (by simp)) hbig
  · have hpass := pageList_passes hseek hsize hdata (hstrict hacc)
    have hack := ackAll_pageList (column := startColumn.toNat) hdata s
    rw [writePage_cursor] at hack
    rw [accept_acked hready (hplan ▸ hpass) (by rw [hsent, hlen]) hall ha, hsent, hplan, hack]
    by_cases hspan : pageSpan.toNat = 0
    · simp only [hspan, byte_eq_zero_iff, if_true]
      rfl
    · simp only [hspan, byte_eq_zero_iff, if_false]
      rfl
  · have hper := burstsPerPage_toNat columnSpan
    rw [accept_pages_lost hready hplan hdata hseek hsize (hsent ▸ hb) hlen hlimit hall hm ha (hper ▸ hstrict hacc), hsent, hper,
      writePage_cursor, BitVec.ofNat_toNat, BitVec.setWidth_eq]
    rfl

/-- Settles O26: the pages of the span inside the geometry are acknowledged, and the strict check stops the first one outside. -/
theorem strictWriteStopsAtTheGeometry : Obligations.StrictWriteStopsAtTheGeometry := by
  intro buf startPage pageSpan startColumn columnSpan s ns rest hready hs hseek hsize hpages hcover l before last
  have hwf := bufferCovers_of_length (startColumn := startColumn) hcover
  rw [exec_write hwf]
  refine ⟨fun hout => ?_, fun hin hover hlen hall ha => ?_⟩
  · obtain ⟨more, hfirst⟩ := plan_write_cons hpages s.cfg s.lat buf startPage startColumn columnSpan
    exact accept_seek_rejected hready hfirst ((strictRejects_iff _ _ _).mpr ⟨hs, .inr hout⟩)
  · have hdata : ∀ p ∈ before, (writeData buf columnSpan p).length = columnSpan.toNat := fun p hp =>
      writeData_length hwf p (List.mem_range'_1.mpr (by have := List.mem_range'_1.mp hp; omega))
    have hpass := pageList_passes hseek hsize hdata fun p hp => strictRejects_eq_false (c := s.cfg) (column := startColumn.toNat)
      fun _ => ⟨by have := List.mem_range'_1.mp hp; omega, hin⟩
    have hfirst : startPage.toNat + (s.cfg.pageCount - startPage.toNat) = max startPage.toNat s.cfg.pageCount := by omega
    have hplan := (plan_write_pages s.cfg s.lat buf startPage pageSpan startColumn columnSpan).trans
      (pageList_split (i := s.cfg.pageCount - startPage.toNat) (by omega))
    have hsent := sentBursts_write hdata startColumn
    have hstop (t : State) (ht : t.cfg = s.cfg) :
        startItem (.seek (startPage.toNat + (s.cfg.pageCount - startPage.toNat)) startColumn.toNat) t = .raised .addressOutOfRange _ t :=
      startItem_rejected ((strictRejects_iff _ _ _).mpr ⟨by rwa [ht], .inl (by rw [ht]; omega)⟩)
    have hack := ackAll_pageList (column := startColumn.toNat) hdata s
    rw [writePage_cursor] at hack
    rw [accept_stopped hready hplan hpass (by rw [hsent, hlen]) hall ha hstop, hsent, hack, hfirst]
    by_cases hnone : s.cfg.pageCount - startPage.toNat = 0
    · simp only [before, hnone, List.range'_zero, if_true]
      rfl
    · have hlast : max startPage.toNat s.cfg.pageCount - 1 = last := by omega
      simp only [before, hnone, List.range'_eq_nil_iff, if_false, hlast]
      rfl

/-! ### A Data burst above MAX_BURST -/

/-- A first `Seek` is acknowledged and the Data burst behind it does not fit. -/
theorem accept_data_tooLarge {load : Latches → Latches} {buf data : List Byte} {s : State} {page column n : Nat} {more : List Item}
    {rest : List Attempt} (hready : s.ready)
    (hplan : plan s.cfg (load s.lat) buf = .seek page column :: .raw .data data :: more) (hseek : 3 ≤ s.cfg.maxBurst)
    (hstrict : strictRejects s.cfg page column = false) (hbig : s.cfg.maxBurst < data.length)
    (hn : nakAllowed s.cfg.retryLimit n) (ha : s.answers = ackedAfter [n] rest) :
    accept load buf s = .next
      { ((s.sent [(.command, seekBytes page column)] [n] rest).latched (load s.lat) buf).cursorOf (setCursor page column s) with
        rsp := { code := .bufferTooLarge, info := .count data.length } } :=
  accept_stopped (items := [.seek page column]) hready hplan (List.forall_mem_singleton.mpr (seek_passes hstrict hseek)) rfl
    (by simpa using hn) ha
    fun t ht => startItem_tooLarge (it := .raw .data data) (fun _ _ h => (by cases h)) (by rw [ht]; exact hbig)

/-- Settles O24: one `Seek` is sent and leaves the cursor where it put it. -/
theorem tooLargeDataBurstAfterOneSeek : Obligations.TooLargeDataBurstAfterOneSeek := by
  refine ⟨fun s n rest hready hwf hseek hbig hn ha => ?_,
    fun buf startPage pageSpan startColumn columnSpan s n rest hready hseek hbig hpages hcover hstrict hn ha => ?_⟩
  · obtain ⟨hpages, -, hcolumns, -⟩ := (Config.wf_iff s.cfg).mp hwf
    obtain ⟨more, hplan⟩ := plan_clear_cons hpages s.lat s.callerBuf
    have hzeros : (List.replicate s.cfg.segCount 0#8).length = s.cfg.segCount := List.length_replicate
    rw [exec_clear, accept_data_tooLarge hready hplan hseek (strictRejects_eq_false fun _ => ⟨hpages, hcolumns⟩)
      (hzeros.symm ▸ hbig) hn ha, hzeros, setCursor_eq, decide_eq_true ⟨hpages, hcolumns⟩]
    rfl
  · obtain ⟨more, hplan⟩ := plan_write_cons hpages s.cfg s.lat buf startPage startColumn columnSpan
    have hwf := bufferCovers_of_length (startColumn := startColumn) hcover
    have hlen : (writeData buf columnSpan startPage.toNat).length = columnSpan.toNat :=
      writeData_length hwf _ (List.mem_range'_1.mpr (by omega))
    rw [exec_write hwf, accept_data_tooLarge (data := writeData buf columnSpan startPage.toNat) hready hplan hseek
      (strictRejects_eq_false hstrict) (hlen.symm ▸ hbig) hn ha, hlen, setCursor_eq, seekBytes_of_page,
      Nat.mod_eq_of_lt startColumn.isLt, BitVec.ofNat_toNat 8, BitVec.setWidth_eq]
    rfl

end Sys2Proof.Machine
end

section
/-! PROOF. The controller consuming transactions byte by byte (spec 20 R58 to R60; 30 R80, R81), as runs of the machine. -/
namespace Sys2Proof.Machine

/-! ### Runs of the machine -/

/-- The machine comes from `s` to `t` in some number of steps. -/
def Reaches (s t : State) : Prop := ∃ k, Sys2Proof.core.run k s = .next t

theorem Reaches.refl (s : State) : Reaches s s := ⟨0, rfl⟩

theorem run_succ_iff {k : Nat} {s t : State} :
    Sys2Proof.core.run (k + 1) s = .next t ↔ ∃ u, step s = .next u ∧ Sys2Proof.core.run k u = .next t := by
  have hstep : Sys2Proof.core.step s = step s := rfl
  simp only [Host.Core.run, hstep]
  cases step s <;> simp

theorem Reaches.step_then {s u t : State} (h : step s = .next u) (hut : Reaches u t) : Reaches s t := by
  obtain ⟨k, hk⟩ := hut
  exact ⟨k + 1, run_succ_iff.mpr ⟨u, h, hk⟩⟩

theorem Reaches.trans {s u t : State} (hsu : Reaches s u) (hut : Reaches u t) : Reaches s t := by
  obtain ⟨k, hk⟩ := hsu
  induction k generalizing s with
  | zero =>
    obtain rfl : s = u := Host.Outcome.next.inj hk
    exact hut
  | succ k ih =>
    obtain ⟨v, hstep, hv⟩ := run_succ_iff.mp hk
    exact .step_then hstep (ih hv)

/-! ### A byte of a transaction -/

/-- `s` with the controller `k`, its receiver at a given place of a given inbox. -/
def State.receiving (s : State) (k : Controller) (inbox : List Delivery) (expect : Expect) (cont : Bool) : State :=
  { s with ctl := { k with inbox := inbox, expect := expect, cont := cont } }

/-- What is left of the inbox once a byte of its first transaction is taken. -/
def afterByte (rest : List Byte) (later : List Delivery) : List Delivery := if rest = [] then later else .frame rest :: later

/-- A payload byte that takes the controller from `k` to `k'`, whatever DPF is at and wherever the receiver is. -/
def PayloadStep (c : Config) (tag : Tag) (b : Byte) (k k' : Controller) : Prop :=
  ∀ (s : State) (rest : List Byte) (later : List Delivery) (cont : Bool), s.cfg = c →
    step (s.receiving k (.frame (b :: rest) :: later) (.payload tag) cont) =
      .next (s.receiving k' (afterByte rest later) .control cont)

/-- A Command byte that no parameter is awaited for, on a mirror with a meaning. -/
theorem PayloadStep.command {c : Config} {b : Byte} {k k' : Controller} {i : Instr} (f : Controller → Controller)
    (hparam : k.param = none) (hm : k.meaning = true) (hd : decodeCmd b = .ok i) (hi : ∀ s, exec i s = .next (onMirror f s))
    (hf : ∀ inbox expect cont, f { k with inbox := inbox, expect := expect, cont := cont } =
      { k' with inbox := inbox, expect := expect, cont := cont }) :
    PayloadStep c .command b k k' := by
  intro s rest later cont _
  rw [(stepRunsTheDecodedInstruction _ i).2.2 b rest later rfl rfl hparam hd, hi, onMirror_of_meaning hm]
  exact congrArg (fun k => Host.Outcome.next { s with ctl := k }) (hf _ _ _)

/-- The byte of an awaited parameter. -/
theorem PayloadStep.parameter {c : Config} {p : Param} {k : Controller} (hparam : k.param = some p) (hm : k.meaning = true)
    (b : Byte) : PayloadStep c .command b k { k with param := none, settings := k.settings.setParam p b } := by
  intro s rest later cont _
  rw [step_parameter (p := p) rfl rfl hparam, takeParam, onMirror_of_meaning hm]
  rfl

/-- A Data byte stored at the cursor, which moves on inside its page. -/
def storeByte (c : Config) (k : Controller) (v : Byte) : Controller :=
  { k with gdd := Memory.write k.gdd (gddAddr k.page.toNat k.col.toNat) v, col := BitVec.ofNat 8 ((k.col.toNat + 1) % c.segCount) }

theorem PayloadStep.data {c : Config} {k : Controller} (hm : k.meaning = true) (hpage : k.page.toNat < c.pageCount)
    (hcol : k.col.toNat < c.segCount) (v : Byte) : PayloadStep c .data v k (storeByte c k v) := by
  rintro s rest later cont rfl
  rw [step_data rfl rfl, takeData_of_inRange v hm ((mirrorInRange_iff _).mpr ⟨hpage, hcol⟩)]
  rfl

/-! ### A list of transactions -/

/-- The payload bytes of a list of bursts, each with its tag. -/
def payloadStream (bs : List Burst) : List (Tag × Byte) := bs.flatMap fun b => b.2.map (b.1, ·)

/-- Payload bytes that take the controller from `k` to `k'`, one after the other. -/
inductive Absorbs (c : Config) : List (Tag × Byte) → Controller → Controller → Prop
  | nil (k : Controller) : Absorbs c [] k k
  | cons {tag : Tag} {b : Byte} {bs : List (Tag × Byte)} {k k' k'' : Controller} :
      PayloadStep c tag b k k' → Absorbs c bs k' k'' → Absorbs c ((tag, b) :: bs) k k''

theorem Absorbs.single {c : Config} {tag : Tag} {b : Byte} {k k' : Controller} (h : PayloadStep c tag b k k') :
    Absorbs c [(tag, b)] k k' :=
  .cons h (.nil k')

theorem Absorbs.append {c : Config} {bs bs' : List (Tag × Byte)} {k k' k'' : Controller} (h : Absorbs c bs k k')
    (h' : Absorbs c bs' k' k'') : Absorbs c (bs ++ bs') k k'' := by
  induction h with
  | nil => exact h'
  | cons hstep _ ih => exact .cons hstep (ih h')

theorem absorbs_append_iff {c : Config} {bs bs' : List (Tag × Byte)} {k k'' : Controller} :
    Absorbs c (bs ++ bs') k k'' ↔ ∃ k', Absorbs c bs k k' ∧ Absorbs c bs' k' k'' := by
  refine ⟨fun h => ?_, fun ⟨_, h, h'⟩ => h.append h'⟩
  induction bs generalizing k with
  | nil => exact ⟨k, .nil k, h⟩
  | cons x bs ih =>
    cases h with
    | cons hstep hrest =>
      obtain ⟨k', h, h'⟩ := ih hrest
      exact ⟨k', .cons hstep h, h'⟩

theorem decodeCtrl_ctrlByte (cont : Bool) (tag : Tag) :
    ∃ i, decodeCtrl (ctrlByte cont tag) = .ok i ∧ ∀ s, exec i s = .next (takeControl cont tag s) := by
  cases cont <;> cases tag <;> exact ⟨_, rfl, fun _ => rfl⟩

/-- A control byte tags the byte behind it. -/
theorem step_control (s : State) (k : Controller) (cont cont' : Bool) (tag : Tag) (rest : List Byte) (later : List Delivery) :
    step (s.receiving k (.frame (ctrlByte cont' tag :: rest) :: later) .control cont) =
      .next (s.receiving k (afterByte rest later) (.payload tag) cont') := by
  obtain ⟨i, hd, hi⟩ := decodeCtrl_ctrlByte cont' tag
  rw [(stepRunsTheDecodedInstruction _ i).2.1 _ rest later rfl rfl hd, hi]
  rfl

/-- The pairs of a transaction are consumed one after the other (spec 30 R80). -/
theorem reaches_pairs {policy : Policy} {tag : Tag} {n i : Nat} {bytes : List Byte} {k k' : Controller}
    {later : List Delivery} {cont : Bool} {s : State} (hne : bytes ≠ []) (habs : Absorbs s.cfg (bytes.map (tag, ·)) k k') :
    ∃ cont', Reaches (s.receiving k (.frame (encodePairs policy tag n i bytes) :: later) .control cont)
      (s.receiving k' later .control cont') := by
  induction bytes generalizing k i cont with
  | nil => exact absurd rfl hne
  | cons b bytes ih =>
    obtain _ | ⟨hstep, habs⟩ := habs
    have hctrl := step_control s k cont (contFlag policy i n) tag (b :: encodePairs policy tag n (i + 1) bytes) later
    have hpay := hstep s (encodePairs policy tag n (i + 1) bytes) later (contFlag policy i n) rfl
    cases bytes with
    | nil =>
      obtain _ | _ := habs
      exact ⟨_, .step_then hctrl (.step_then hpay (.refl _))⟩
    | cons b' bytes =>
      obtain ⟨cont', hrest⟩ := ih (i := i + 1) (cont := contFlag policy i n) (List.cons_ne_nil _ _) habs
      exact ⟨cont', .step_then hctrl (.step_then hpay hrest)⟩

/-- The inbox of acknowledged bursts is consumed to its end, the controller taken through their payload bytes. -/
theorem reaches_consumed {policy : Policy} {bs : List Burst} {k k' : Controller} {cont : Bool} {s : State}
    (hne : ∀ b ∈ bs, b.2 ≠ []) (habs : Absorbs s.cfg (payloadStream bs) k k') :
    ∃ cont', Reaches (s.receiving k (bs.map fun b => .frame (encodeBurst policy b.1 b.2)) .control cont)
      (s.receiving k' [] .control cont') := by
  induction bs generalizing k cont with
  | nil =>
    obtain _ | _ := habs
    exact ⟨cont, .refl _⟩
  | cons b bs ih =>
    obtain ⟨hb, hbs⟩ := List.forall_mem_cons.mp hne
    obtain ⟨k₁, hfirst, hrest⟩ := absorbs_append_iff.mp habs
    obtain ⟨cont₁, hreach⟩ := reaches_pairs hb hfirst
    obtain ⟨cont', hreach'⟩ := ih hbs hrest
    exact ⟨cont', hreach.trans hreach'⟩

end Sys2Proof.Machine
end

section
/-! PROOF. What the mirror holds after the bursts of SEEK, of INIT and of the pages of CLEAR and WRITE (spec 20 R59, R60). -/
namespace Sys2Proof.Machine

/-! ### The three bytes of a `Seek` -/

theorem decodeCmd_page (page : Nat) : decodeCmd (0xB0#8 ||| BitVec.ofNat 8 (page % 8)) = .ok (.pagestart (BitVec.ofNat 3 page)) := by
  have hpage : BitVec.ofNat 8 (page % 8) = (BitVec.ofNat 3 page).setWidth 8 := by
    apply BitVec.eq_of_toNat_eq
    simp
  rw [hpage]
  exact decode_encode_pagestart _

theorem decodeCmd_low_nibble (column : Byte) : decodeCmd (column &&& 0x0F#8) = .ok (.collo (column.setWidth 4)) := by
  revert column
  decide +kernel

theorem decodeCmd_high_nibble (column : Byte) : decodeCmd (0x10#8 ||| (column >>> 4)) = .ok (.colhi ((column >>> 4).setWidth 4)) := by
  revert column
  decide +kernel

/-- The two nibble commands put the column together, whatever it was. -/
theorem column_of_nibbles (col column : Byte) :
    (((column >>> 4).setWidth 4).setWidth 8 <<< 4) ||| (((col &&& 0xF0#8) ||| (column.setWidth 4).setWidth 8) &&& 0x0F#8) = column := by
  apply BitVec.eq_of_toNat_eq
  have := column.isLt
  have := col.isLt
  rw [high_nibble_eq, low_nibble_eq]
  simp [Nat.shiftRight_eq_div_pow]
  omega

/-- A consumed `Seek` puts the mirror's cursor at its masked operands. -/
theorem absorbs_seek (c : Config) (page : Nat) (column : Byte) {k : Controller} (hparam : k.param = none) (hm : k.meaning = true) :
    Absorbs c ((seekBytes page column.toNat).map (.command, ·)) k { k with page := BitVec.ofNat 3 page, col := column } := by
  have hpage : PayloadStep c .command (0xB0#8 ||| BitVec.ofNat 8 (page % 8)) k { k with page := BitVec.ofNat 3 page } :=
    .command _ hparam hm (decodeCmd_page page) (fun _ => rfl) fun _ _ _ => rfl
  have hlow : PayloadStep c .command (column &&& 0x0F#8) { k with page := BitVec.ofNat 3 page }
      { k with page := BitVec.ofNat 3 page, col := (k.col &&& 0xF0#8) ||| (column.setWidth 4).setWidth 8 } :=
    .command _ hparam hm (decodeCmd_low_nibble column) (fun _ => rfl) fun _ _ _ => rfl
  have hhigh : PayloadStep c .command (0x10#8 ||| (column >>> 4))
      { k with page := BitVec.ofNat 3 page, col := (k.col &&& 0xF0#8) ||| (column.setWidth 4).setWidth 8 }
      { k with page := BitVec.ofNat 3 page, col := column } :=
    .command _ hparam hm (decodeCmd_high_nibble column) (fun _ => rfl) fun _ _ _ => by rw [column_of_nibbles]
  rw [seekBytes_of_page]
  exact .cons hpage (.cons hlow (.single hhigh))

/-! ### A row of Data bytes -/

theorem gddAddr_eq_iff {p q x y : Nat} (hx : x < 256) (hy : y < 256) : gddAddr p x = gddAddr q y ↔ p = q ∧ x = y := by
  simp only [gddAddr]
  omega

theorem read_write (m : Memory) (a a' : Nat) (v : Byte) :
    Memory.read (Memory.write m a v) a' = if a' = a then some v else Memory.read m a' := by
  by_cases h : a' = a
  · rw [if_pos h, h, Memory.read_write_same]
  · rw [if_neg h, Memory.read_write_other m a a' v h]

/-- The Data bytes of a burst stored one after the other. -/
def storeRow (c : Config) (k : Controller) (bytes : List Byte) : Controller := bytes.foldl (storeByte c) k

section
variable {c : Config} {k : Controller} (hwf : c.wf = true)
include hwf

theorem storeByte_col (v : Byte) : (storeByte c k v).col.toNat = (k.col.toNat + 1) % c.segCount := by
  obtain ⟨-, -, hcolumns, hmax, -⟩ := (Config.wf_iff c).mp hwf
  exact Nat.mod_eq_of_lt ((Nat.mod_lt _ hcolumns).trans_le hmax)

theorem storeByte_col_lt (v : Byte) : (storeByte c k v).col.toNat < c.segCount := by
  obtain ⟨-, -, hcolumns, -⟩ := (Config.wf_iff c).mp hwf
  exact storeByte_col hwf v ▸ Nat.mod_lt _ hcolumns

theorem absorbs_row (hm : k.meaning = true) (hpage : k.page.toNat < c.pageCount) (hcol : k.col.toNat < c.segCount)
    (bytes : List Byte) : Absorbs c (bytes.map (.data, ·)) k (storeRow c k bytes) := by
  induction bytes generalizing k with
  | nil => exact .nil k
  | cons v bytes ih => exact .cons (.data hm hpage hcol v) (ih hm hpage (storeByte_col_lt hwf v))

theorem storeRow_col (hcol : k.col.toNat < c.segCount) (bytes : List Byte) :
    (storeRow c k bytes).col.toNat = (k.col.toNat + bytes.length) % c.segCount := by
  induction bytes generalizing k with
  | nil => exact (Nat.mod_eq_of_lt hcol).symm
  | cons v bytes ih =>
    calc (storeRow c (storeByte c k v) bytes).col.toNat
        = ((k.col.toNat + 1) % c.segCount + bytes.length) % c.segCount := by rw [ih (storeByte_col_lt hwf v), storeByte_col hwf]
      _ = (k.col.toNat + (v :: bytes).length) % c.segCount := by
          rw [Nat.mod_add_mod, List.length_cons, Nat.add_assoc, Nat.add_comm 1]

/-- A row that fits the page is stored in consecutive cells, and no other cell changes. -/
theorem read_storeRow {bytes : List Byte} (hfit : k.col.toNat + bytes.length ≤ c.segCount) {p x : Nat} (hx : x < 256) :
    Memory.read (storeRow c k bytes).gdd (gddAddr p x) =
      if p = k.page.toNat ∧ k.col.toNat ≤ x ∧ x < k.col.toNat + bytes.length then bytes[x - k.col.toNat]?
      else Memory.read k.gdd (gddAddr p x) := by
  induction bytes generalizing k with
  | nil =>
    rw [if_neg fun ⟨_, hfrom, hto⟩ => absurd hto (Nat.not_lt_of_le hfrom)]
    rfl
  | cons v bytes ih =>
    have hcol := storeByte_col hwf (k := k) v
    rw [List.length_cons] at hfit ⊢
    have hnext : bytes ≠ [] → (storeByte c k v).col.toNat = k.col.toNat + 1 := fun hne => by
      have := List.length_pos_iff.mpr hne
      rw [hcol, Nat.mod_eq_of_lt (by omega)]
    have hcell : Memory.read (storeByte c k v).gdd (gddAddr p x) =
        if p = k.page.toNat ∧ x = k.col.toNat then some v else Memory.read k.gdd (gddAddr p x) := by
      simp only [storeByte, read_write, gddAddr_eq_iff hx k.col.isLt]
    have hrest : Memory.read (storeRow c k (v :: bytes)).gdd (gddAddr p x) = _ := ih (k := storeByte c k v) (by
      cases bytes with
      | nil => exact Nat.le_of_lt (storeByte_col_lt hwf v)
      | cons => rw [hnext (List.cons_ne_nil _ _)]; omega)
    have hnext' (h : 0 < bytes.length) := hnext (List.length_pos_iff.mp h)
    rw [hrest, hcell]
    by_cases hlater : p = k.page.toNat ∧ k.col.toNat + 1 ≤ x ∧ x < k.col.toNat + 1 + bytes.length
    · obtain ⟨hp, hfrom, hto⟩ := hlater
      have hmoved := hnext' (by omega)
      have hindex : x - k.col.toNat = x - (k.col.toNat + 1) + 1 := by omega
      rw [if_pos ⟨hp, by omega, by omega⟩, if_pos ⟨hp, by omega, by omega⟩, hmoved, hindex, List.getElem?_cons_succ]
    · rw [if_neg fun ⟨hp, hfrom, hto⟩ => hlater (by have := hnext' (by omega); exact ⟨hp, by omega, by omega⟩)]
      by_cases hfirst : p = k.page.toNat ∧ x = k.col.toNat
      · rw [if_pos hfirst, if_pos ⟨hfirst.1, by omega, by omega⟩, hfirst.2, Nat.sub_self, List.getElem?_cons_zero]
      · rw [if_neg hfirst, if_neg fun ⟨hp, hfrom, hto⟩ => by omega]

end

/-! ### Pages -/

/-- A page of CLEAR or of WRITE, consumed: the cursor at the page's column, then the row. -/
def storePage (c : Config) (data : Nat → List Byte) (column : Byte) (k : Controller) (p : Nat) : Controller :=
  storeRow c { k with page := BitVec.ofNat 3 p, col := column } (data p)

/-- The pages of a list stored one after the other. -/
def storePages (c : Config) (data : Nat → List Byte) (column : Byte) (k : Controller) (ps : List Nat) : Controller :=
  ps.foldl (storePage c data column) k

theorem storeRow_eq (c : Config) (k : Controller) (bytes : List Byte) :
    storeRow c k bytes = { k with gdd := (storeRow c k bytes).gdd, col := (storeRow c k bytes).col } := by
  induction bytes generalizing k with
  | nil => rfl
  | cons v bytes ih => exact ih (storeByte c k v)

theorem storePage_eq (c : Config) (data : Nat → List Byte) (column : Byte) (k : Controller) (p : Nat) :
    storePage c data column k p = { k with
      page := BitVec.ofNat 3 p, gdd := (storePage c data column k p).gdd, col := (storePage c data column k p).col } :=
  storeRow_eq c _ (data p)

@[simp] theorem storePage_param (c : Config) (data : Nat → List Byte) (column : Byte) (k : Controller) (p : Nat) :
    (storePage c data column k p).param = k.param := by rw [storePage_eq]

@[simp] theorem storePage_meaning (c : Config) (data : Nat → List Byte) (column : Byte) (k : Controller) (p : Nat) :
    (storePage c data column k p).meaning = k.meaning := by rw [storePage_eq]

@[simp] theorem storePage_page (c : Config) (data : Nat → List Byte) (column : Byte) (k : Controller) (p : Nat) :
    (storePage c data column k p).page = BitVec.ofNat 3 p := by rw [storePage_eq]

theorem storePages_concat (c : Config) (data : Nat → List Byte) (column : Byte) (k : Controller) (ps : List Nat) (p : Nat) :
    storePages c data column k (ps ++ [p]) = storePage c data column (storePages c data column k ps) p :=
  List.foldl_concat _ _ _ _

@[simp] theorem storePages_receiver (c : Config) (data : Nat → List Byte) (column : Byte) (k : Controller) (ps : List Nat) :
    (storePages c data column k ps).param = k.param ∧ (storePages c data column k ps).meaning = k.meaning := by
  induction ps generalizing k with
  | nil => exact ⟨rfl, rfl⟩
  | cons p ps ih =>
    have hrest := ih (storePage c data column k p)
    rwa [storePage_param, storePage_meaning] at hrest

theorem payloadStream_append (bs bs' : List Burst) : payloadStream (bs ++ bs') = payloadStream bs ++ payloadStream bs' :=
  List.flatMap_append

section
variable {c : Config} {data : Nat → List Byte} {column : Byte} {n : Nat} {ps : List Nat} {k : Controller} (hwf : c.wf = true)
  (hps : ∀ p ∈ ps, p < c.pageCount) (hlen : ∀ p ∈ ps, (data p).length = n) (hn : 1 ≤ n) (hfit : column.toNat + n ≤ c.segCount)
include hwf hps hlen hn hfit

/-- The bursts of the pages take the mirror through `storePages`. -/
theorem absorbs_pages (hparam : k.param = none) (hm : k.meaning = true) :
    Absorbs c (payloadStream (sentBursts (ps.flatMap (pageItems data column.toNat)))) k (storePages c data column k ps) := by
  induction ps generalizing k with
  | nil => exact .nil k
  | cons p ps ih =>
    obtain ⟨hp, hps⟩ := List.forall_mem_cons.mp hps
    obtain ⟨hlenp, hlen⟩ := List.forall_mem_cons.mp hlen
    obtain ⟨-, hpages, -⟩ := (Config.wf_iff c).mp hwf
    have hpage : (BitVec.ofNat 3 p).toNat < c.pageCount := by rw [BitVec.toNat_ofNat, Nat.mod_eq_of_lt (by omega)]; exact hp
    have hne : data p ≠ [] := List.ne_nil_of_length_pos (by omega)
    have hrow := absorbs_row (k := { k with page := BitVec.ofNat 3 p, col := column }) hwf hm hpage
      (show column.toNat < c.segCount by omega) (data p)
    have hfirst : Absorbs c (payloadStream (sentBursts (pageItems data column.toNat p))) k (storePage c data column k p) := by
      rw [sentBursts_pageItems, if_neg hne]
      exact (absorbs_seek c p column hparam hm).append (hrow.append (.nil _))
    rw [List.flatMap_cons, sentBursts_append, payloadStream_append]
    exact hfirst.append (ih hps hlen (by simpa using hparam) (by simpa using hm))

omit hn in
/-- A cell of one of the pages holds its byte of the page's row, every other cell what it held before. -/
theorem read_storePages {p x : Nat} (hx : x < 256) :
    Memory.read (storePages c data column k ps).gdd (gddAddr p x) =
      if p ∈ ps ∧ column.toNat ≤ x ∧ x < column.toNat + n then (data p)[x - column.toNat]?
      else Memory.read k.gdd (gddAddr p x) := by
  induction ps using List.reverseRecOn with
  | nil => rw [if_neg fun h => List.not_mem_nil h.1]; rfl
  | append_singleton ps q ih =>
    obtain ⟨hps, hq⟩ := List.forall_mem_append.mp hps
    obtain ⟨hlen, hlenq⟩ := List.forall_mem_append.mp hlen
    rw [List.forall_mem_singleton] at hq hlenq
    obtain ⟨-, hpages, -⟩ := (Config.wf_iff c).mp hwf
    have hpage : (BitVec.ofNat 3 q).toNat = q := by rw [BitVec.toNat_ofNat, Nat.mod_eq_of_lt (by omega)]
    have hrow := read_storeRow hwf (k := { storePages c data column k ps with page := BitVec.ofNat 3 q, col := column })
      (bytes := data q) (by rwa [hlenq]) (p := p) hx
    rw [hpage, hlenq, ih hps hlen] at hrow
    rw [storePages_concat, storePage, hrow]
    by_cases hp : p = q
    · by_cases hrange : column.toNat ≤ x ∧ x < column.toNat + n <;> simp [hp, hrange]
    · simp [hp]

/-- The cursor is behind the row of the last page. -/
theorem storePages_cursor {start len : Nat} (hrange : ps = List.range' start (len + 1)) :
    (storePages c data column k ps).page.toNat = start + len ∧
      (storePages c data column k ps).col.toNat = (column.toNat + n) % c.segCount := by
  rw [List.range'_1_concat] at hrange
  obtain ⟨hlast, hlenlast⟩ : start + len < c.pageCount ∧ (data (start + len)).length = n :=
    ⟨hps _ (by simp [hrange]), hlen _ (by simp [hrange])⟩
  obtain ⟨-, hpages, -⟩ := (Config.wf_iff c).mp hwf
  have hcol : column.toNat < c.segCount := by omega
  rw [hrange, storePages_concat]
  refine ⟨?_, ?_⟩
  · rw [storePage_page, BitVec.toNat_ofNat, Nat.mod_eq_of_lt (by omega)]
  · rw [storePage, storeRow_col hwf hcol, hlenlast]

end

end Sys2Proof.Machine
end

section
/-! PROOF. From the request to the display: SEEK with FRAME.D, INIT, CLEAR and WRITE run by the machine (spec 41 R126, 42 R146, 43
R161, R162). -/
namespace Sys2Proof.Machine

/-! ### A request and the consumption of its bursts -/

/-- A request whose bursts are acknowledged, and the controller consuming them. -/
theorem reaches_request {s u : State} {r : Request} {later : List Request} {bs : List Burst}
    {k' : Controller} (hready : s.ready) (hreceiver : s.receiverReady) (hhost : s.host = r :: later)
    (hexec : exec (decodeRequest r) { s with host := later } = .next u) (hcfg : u.cfg = s.cfg)
    (hctl : u.ctl = { s.ctl with inbox := s.ctl.inbox ++ bs.map fun b => .frame (encodeBurst s.cfg.policy b.1 b.2) })
    (hne : ∀ b ∈ bs, b.2 ≠ []) (habs : Absorbs s.cfg (payloadStream bs) s.ctl k') :
    ∃ cont, Reaches s (u.receiving k' [] .control cont) := by
  obtain ⟨hin, hexpect, -⟩ := hreceiver
  have hstep := ((stepRunsTheDecodedInstruction s (decodeRequest r)).1 r later hin hready.1 hhost rfl).trans hexec
  have hstart : u.receiving s.ctl (bs.map fun b => .frame (encodeBurst s.cfg.policy b.1 b.2)) .control s.ctl.cont = u := by
    have hsame : u.ctl = { s.ctl with
        inbox := bs.map fun b => .frame (encodeBurst s.cfg.policy b.1 b.2), expect := .control, cont := s.ctl.cont } := by
      rw [hctl, hin, ← hexpect]
      rfl
    rw [State.receiving, ← hsame]
  obtain ⟨cont, hreach⟩ := reaches_consumed (s := u) (policy := s.cfg.policy) (cont := s.ctl.cont) hne (hcfg ▸ habs)
  exact ⟨cont, .step_then hstep (hstart ▸ hreach)⟩

/-! ### SEEK and FRAME.D -/

theorem payloadStream_singleton (b : Burst) : payloadStream [b] = b.2.map (b.1, ·) :=
  List.append_nil _

theorem ofNat_toNat_of_lt_eight {p : Nat} (h : p < 8) : (BitVec.ofNat 3 p).toNat = p := by
  rw [BitVec.toNat_ofNat, Nat.mod_eq_of_lt h]

/-- SEEK to a place inside the geometry: the mirror's cursor is there, its RAM as it was. -/
theorem reaches_seek {s : State} {page column : Byte} {n : Nat} {rest : List Attempt} {later : List Request}
    (hready : s.ready) (hreceiver : s.receiverReady) (hsize : 3 ≤ s.cfg.maxBurst) (hpage : page.toNat < s.cfg.pageCount)
    (hcolumn : column.toNat < s.cfg.segCount) (hn : nakAllowed s.cfg.retryLimit n) (ha : s.answers = ackedAfter [n] rest)
    (hhost : s.host = { sel := 0x3#4, page := page, column := column } :: later) :
    ∃ t, Reaches s t ∧ t.cfg = s.cfg ∧ t.host = later ∧ t.answers = rest ∧ t.ready ∧ t.receiverReady ∧
      t.ctl.gdd = s.ctl.gdd ∧ t.ctl.page = BitVec.ofNat 3 page.toNat ∧ t.ctl.col = column := by
  obtain ⟨-, -, hparam, hmeaning⟩ := id hreceiver
  have hinside : ¬ (s.cfg.strict = true ∧ (s.cfg.pageCount ≤ page.toNat ∨ s.cfg.segCount ≤ column.toNat)) := fun ⟨_, hout⟩ =>
    hout.elim (Nat.not_le_of_lt hpage) (Nat.not_le_of_lt hcolumn)
  obtain ⟨-, -, hseek, -⟩ := seekBehaviour page column { s with host := later } hready
  have habs := absorbs_seek s.cfg page.toNat column hparam hmeaning
  rw [seekBytes_eq, ← payloadStream_singleton (.command, _)] at habs
  obtain ⟨cont, hreach⟩ := reaches_request hready hreceiver hhost (hseek hinside hsize n rest hn ha) rfl rfl (by simp) habs
  exact ⟨_, hreach, rfl, rfl, rfl, hready, ⟨rfl, rfl, hparam, hmeaning⟩, rfl, rfl, rfl⟩

/-- FRAME.D of one byte at a cursor inside the geometry: the byte is stored there. -/
theorem reaches_frameD_byte {s : State} {v : Byte} {n : Nat} {rest : List Attempt} {later : List Request}
    (hready : s.ready) (hreceiver : s.receiverReady) (hsize : 1 ≤ s.cfg.maxBurst) (hpage : s.ctl.page.toNat < s.cfg.pageCount)
    (hcolumn : s.ctl.col.toNat < s.cfg.segCount) (hn : nakAllowed s.cfg.retryLimit n) (ha : s.answers = ackedAfter [n] rest)
    (hhost : s.host = { sel := 0x2#4, buf := [v] } :: later) :
    ∃ t, Reaches s t ∧ t.host = later ∧ t.ready ∧ t.receiverReady ∧ t.ctl.gdd = (storeByte s.cfg s.ctl v).gdd ∧
      t.ctl.page = s.ctl.page ∧ t.ctl.col = (storeByte s.cfg s.ctl v).col := by
  obtain ⟨-, -, hparam, hmeaning⟩ := id hreceiver
  obtain ⟨-, -, hframe, -⟩ := frameDBehaviour [v] { s with host := later } hready
  have habs : Absorbs s.cfg (payloadStream [(.data, [v])]) s.ctl (storeByte s.cfg s.ctl v) :=
    .single (.data hmeaning hpage hcolumn v)
  obtain ⟨cont, hreach⟩ := reaches_request hready hreceiver hhost (hframe (by simp) hsize n rest hn ha) rfl rfl (by simp) habs
  exact ⟨_, hreach, rfl, hready, ⟨rfl, rfl, hparam, hmeaning⟩, rfl, rfl, rfl⟩

/-- Settles O57: the `Seek` puts the mirror's cursor at the place, and the Data byte is stored there. -/
theorem soughtByteLandsAtTheCursor : Obligations.SoughtByteLandsAtTheCursor := by
  intro s page column v n m rest later hinv _ hready hreceiver hsize hpage hcolumn hn hm ha hhost
  obtain ⟨-, hpages, -⟩ := (Config.wf_iff s.cfg).mp hinv.cfg_wf
  have hanswers : s.answers = ackedAfter [n] (ackedAfter [m] rest) := by simpa [ackedAfter] using ha
  obtain ⟨u, hsu, hcfg, huhost, hua, huready, hureceiver, hugdd, hupage, hucol⟩ :=
    reaches_seek hready hreceiver hsize hpage hcolumn hn hanswers hhost
  have hplace : u.ctl.page.toNat = page.toNat := by rw [hupage, ofNat_toNat_of_lt_eight (hpage.trans_le hpages)]
  obtain ⟨t, hut, hthost, htready, htreceiver, htgdd, htpage, htcol⟩ :=
    reaches_frameD_byte huready hureceiver (by rw [hcfg]; omega) (by rwa [hplace, hcfg]) (by rwa [hucol, hcfg]) (by rwa [hcfg]) hua huhost
  obtain ⟨k, hk⟩ := hsu.trans hut
  refine ⟨k, t, hk, hthost, htreceiver, htready, fun a => ?_, htpage ▸ hplace, ?_⟩
  · rw [htgdd, storeByte, read_write, hplace, hucol, hugdd]
  · rw [htcol, hcfg, storeByte_col hinv.cfg_wf, hucol]

/-! ### INIT -/

/-- Command bytes that change the settings by `g` and nothing else, on a mirror with a meaning that awaits no parameter. -/
def Sets (c : Config) (bytes : List Byte) (g : Settings → Settings) : Prop :=
  ∀ k : Controller, k.param = none → k.meaning = true → Absorbs c (bytes.map (.command, ·)) k { k with settings := g k.settings }

theorem Sets.nil (c : Config) : Sets c [] id := fun k _ _ => .nil k

/-- A command that sets one setting, in front of others. -/
theorem Sets.setting {c : Config} {bytes : List Byte} {g : Settings → Settings} (h : Sets c bytes g) {b : Byte} {i : Instr}
    {f : Settings → Settings} (hd : decodeCmd b = .ok i)
    (hi : ∀ s, exec i s = .next (onMirror (onSettings f) s)) : Sets c (b :: bytes) (g ∘ f) :=
  fun k hparam hm => .cons (.command (k' := { k with settings := f k.settings }) _ hparam hm hd hi fun _ _ _ => rfl)
    (h _ hparam hm)

/-- A command and its parameter byte, in front of others. -/
theorem Sets.parameter {c : Config} {bytes : List Byte} {g : Settings → Settings} (h : Sets c bytes g) {b : Byte} {i : Instr}
    {p : Param} (v : Byte)
    (hd : decodeCmd b = .ok i) (hi : ∀ s, exec i s = .next (onMirror (awaitParam p) s)) :
    Sets c (b :: v :: bytes) (g ∘ Settings.setParam p v) := by
  intro k hparam hm
  have hawait : PayloadStep c .command b k { k with param := some p } := .command _ hparam hm hd hi fun _ _ _ => rfl
  have htaken : PayloadStep c .command v { k with param := some p }
      { k with param := none, settings := k.settings.setParam p v } := .parameter (k := { k with param := some p }) rfl hm v
  have hrest := h { k with param := none, settings := k.settings.setParam p v } rfl hm
  have hsame : { k with param := none, settings := g (k.settings.setParam p v) } =
      ({ k with settings := g (k.settings.setParam p v) } : Controller) := by rw [← hparam]
  exact hsame ▸ .cons hawait (.cons htaken hrest)

/-- The settings of the initialization table (spec 42 R142). -/
def initSettings (c : Config) : Settings :=
  { startLine := 0#6, contrast := 0x7F#8, chargePump := c.initChargePump, segRemap := 1#1, entireOn := 0#1,
    inverse := 0#1, muxRatio := 0x3F#8, displayOn := 1#1, comRemap := 1#1, dispOffset := 0x00#8,
    clockDiv := c.initClock, comPins := c.initComPins }

/-- The eighteen bytes of the table write every setting. -/
theorem sets_initStream (c : Config) : Sets c (initStream c).flatten fun _ => initSettings c := by
  have htable := Sets.nil c
  have hdisplayOn := htable.setting (b := 0xAF#8) rfl fun _ => rfl
  have hchargePump := hdisplayOn.parameter (b := 0x8D#8) c.initChargePump rfl fun _ => rfl
  have hclock := hchargePump.parameter (b := 0xD5#8) c.initClock rfl fun _ => rfl
  have hnormal := hclock.setting (b := 0xA6#8) rfl fun _ => rfl
  have hresume := hnormal.setting (b := 0xA4#8) rfl fun _ => rfl
  have hcontrast := hresume.parameter (b := 0x81#8) 0x7F#8 rfl fun _ => rfl
  have hcomPins := hcontrast.parameter (b := 0xDA#8) c.initComPins rfl fun _ => rfl
  have hcomRemap := hcomPins.setting (b := 0xC8#8) rfl fun _ => rfl
  have hsegRemap := hcomRemap.setting (b := 0xA1#8) rfl fun _ => rfl
  have hstartLine := hsegRemap.setting (b := 0x40#8) rfl fun _ => rfl
  have hoffset := hstartLine.parameter (b := 0xD3#8) 0x00#8 rfl fun _ => rfl
  exact hoffset.parameter (b := 0xA8#8) 0x3F#8 rfl fun _ => rfl

theorem payloadStream_command (stream : List (List Byte)) :
    payloadStream (stream.map fun bytes => (.command, bytes)) = stream.flatten.map (.command, ·) := by
  induction stream with
  | nil => rfl
  | cons bytes stream ih =>
    rw [List.flatten_cons, List.map_append, ← ih]
    rfl

/-- Settles O58: the twelve bursts set the settings of the table and leave cursor and RAM alone. -/
theorem initLeavesCursorAndDisplay : Obligations.InitLeavesCursorAndDisplay := by
  intro s ns rest later hinv hready hreceiver hsize hlen hall ha hhost
  obtain ⟨-, -, hparam, hmeaning⟩ := id hreceiver
  obtain ⟨-, hinit⟩ := initBehaviour { s with host := later } hready
  have habs := sets_initStream s.cfg s.ctl hparam hmeaning
  rw [← payloadStream_command] at habs
  obtain ⟨cont, k, hreach⟩ := reaches_request hready hreceiver hhost (hinit hsize ns rest hlen hall ha) rfl rfl (by simp) habs
  exact ⟨k, _, hreach, rfl, ⟨rfl, rfl, hparam, hmeaning⟩, hready, rfl, rfl, rfl, rfl, fun _ => ⟨rfl, rfl, rfl, rfl⟩⟩

/-! ### CLEAR and WRITE -/

/-- A burst that leaves DPF has a payload. -/
theorem payload_ne_nil_of_mem_sentBursts {items : List Item} : ∀ b ∈ sentBursts items, b.2 ≠ [] := by
  induction items with
  | nil => exact fun _ h => absurd h List.not_mem_nil
  | cons it items ih =>
    by_cases hnil : it.payload = []
    · rwa [sentBursts, if_pos hnil]
    · rw [sentBursts, if_neg hnil]
      exact List.forall_mem_cons.mpr ⟨hnil, ih⟩

/-- Settles O59: every page is filled with zeros from its first column on. -/
theorem clearBlanksTheDisplay : Obligations.ClearBlanksTheDisplay := by
  intro s ns rest later hinv _ hready hreceiver hseek hsize hlen hall ha hhost
  obtain ⟨-, -, hparam, hmeaning⟩ := id hreceiver
  have hwf := hinv.cfg_wf
  obtain ⟨hpages, hmaxPages, hcolumns, hmaxColumns, -⟩ := (Config.wf_iff s.cfg).mp hwf
  obtain ⟨-, hclear, -⟩ := clearBehaviour { s with host := later } hready hwf
  have hfit : (0#8).toNat + s.cfg.segCount ≤ s.cfg.segCount := (Nat.zero_add _).le
  have hps : ∀ p ∈ List.range' 0 s.cfg.pageCount, p < s.cfg.pageCount := fun p hp => by simpa using (List.mem_range'_1.mp hp).2
  have habs := absorbs_pages (column := 0#8) hwf hps clearData_length hcolumns hfit hparam hmeaning
  have hsent : sentBursts ((List.range' 0 s.cfg.pageCount).flatMap (pageItems (clearData s.cfg) (0#8).toNat)) = clearBursts s.cfg :=
    sentBursts_clear hwf
  rw [hsent] at habs
  obtain ⟨cont, k, hreach⟩ := reaches_request hready hreceiver hhost (hclear hseek hsize ns rest hlen hall ha) rfl rfl
    (sentBursts_clear hwf ▸ payload_ne_nil_of_mem_sentBursts) habs
  obtain ⟨hparam', hmeaning'⟩ := storePages_receiver s.cfg (clearData s.cfg) 0#8 s.ctl (List.range' 0 s.cfg.pageCount)
  obtain ⟨hpage, hcol⟩ := storePages_cursor (k := s.ctl) (column := 0#8) (start := 0) (len := s.cfg.pageCount - 1) hwf hps
    clearData_length hcolumns hfit (by rw [Nat.sub_add_cancel hpages])
  refine ⟨k, _, hreach, rfl, ⟨rfl, rfl, hparam'.trans hparam, hmeaning'.trans hmeaning⟩, hready, fun p x hp hx => ?_,
    hpage.trans (Nat.zero_add _), BitVec.eq_of_toNat_eq (hcol.trans (by simp)), ?_, ?_, rfl⟩
  · have hread := read_storePages (k := s.ctl) (column := 0#8) hwf hps clearData_length hfit (p := p) (x := x) (by omega)
    rw [if_pos ⟨List.mem_range'_1.mpr (by omega), Nat.zero_le x, by rwa [BitVec.toNat_ofNat, Nat.zero_add]⟩] at hread
    exact hread.trans (by simp [clearData, hx])
  · exact ofNat_toNat_of_lt_eight (p := s.cfg.pageCount - 1) (by omega)
  · exact Nat.mod_eq_of_lt (a := s.cfg.segCount - 1) (b := 256) (by omega)

/-- Settles O60: every page of the span is stored from the start column on, and no other cell is written. -/
theorem writtenRectangleLands : Obligations.WrittenRectangleLands := by
  intro buf startPage pageSpan startColumn columnSpan s ns rest later hinv _ hready hreceiver hseek hsize hspan hcolumns hpages hfit
    hcover hlen hall ha hhost
  obtain ⟨-, -, hparam, hmeaning⟩ := id hreceiver
  have hwf := hinv.cfg_wf
  have hcolumn : startColumn.toNat < s.cfg.segCount := by omega
  obtain ⟨-, -, -, hmax, -⟩ := (Config.wf_iff s.cfg).mp hwf
  have hdata := writeData_length (bufferCovers_of_length (startColumn := startColumn) hcover)
  have hps : ∀ p ∈ List.range' startPage.toNat pageSpan.toNat, p < s.cfg.pageCount := fun p hp =>
    (List.mem_range'_1.mp hp).2.trans_le hpages
  have hsent := sentBursts_write hdata startColumn
  obtain ⟨-, hwrite, -⟩ := writeBehaviour buf startPage pageSpan startColumn columnSpan { s with host := later } hready
    (bufferCovers_of_length hcover)
  have habs := absorbs_pages hwf hps hdata hcolumns hfit hparam hmeaning
  have hcount := length_sentBursts_pageList (column := startColumn.toNat) hdata
  rw [hsent, burstsPerPage, if_neg (Nat.ne_of_gt hcolumns)] at hcount
  have hread (p x : Nat) (hx : x < 256) := read_storePages (k := s.ctl) hwf hps hdata hfit (p := p) hx
  obtain ⟨cont, k, hreach⟩ := reaches_request hready hreceiver hhost
    (hwrite hseek hsize (fun _ => .inr ⟨hpages, hcolumn⟩) ns rest (hlen.trans hcount.symm) hall ha) rfl rfl
    (hsent ▸ payload_ne_nil_of_mem_sentBursts) (hsent ▸ habs)
  obtain ⟨hparam', hmeaning'⟩ := storePages_receiver s.cfg (writeData buf columnSpan) startColumn s.ctl
    (List.range' startPage.toNat pageSpan.toNat)
  refine ⟨k, _, hreach, rfl, ⟨rfl, rfl, hparam'.trans hparam, hmeaning'.trans hmeaning⟩, hready, fun p j hfrom hto hj => ?_,
    fun p x hx hout => ?_⟩
  · refine (hread p (startColumn.toNat + j) (by omega)).trans ?_
    rw [if_pos ⟨List.mem_range'_1.mpr ⟨hfrom, hto⟩, by omega, by omega⟩, Nat.add_sub_cancel_left]
    exact bufSlice_get hj
  · refine (hread p x hx).trans (if_neg fun ⟨hp, hrange⟩ => ?_)
    obtain ⟨hfrom, hto⟩ := List.mem_range'_1.mp hp
    exact hout ⟨hfrom, hto, hrange⟩

end Sys2Proof.Machine
end
